-- ==== Sys2Proof/Word.lean ====
section
/-! DEFINITION. The word types of the block (spec/00_scope.md R9, R11). -/

namespace Sys2Proof

/-- One byte of the launch memory. -/
abbrev Byte := BitVec 8

/-- A u32: a data word, a bus address (WORD = AW = 32, R9). Arithmetic wraps modulo 2^32 (R11). -/
abbrev Word := BitVec 32

/-- A 16-bit op word (30_encoding.md R71). -/
abbrev OpWord := BitVec 16

/-- A byte offset in the register window: op word bits [11:0] (30_encoding.md R71). -/
abbrev Offset := BitVec 12

end Sys2Proof
end

