-- ==== Sys2Proof/Config.lean ====
section
/-! DEFINITION. What an implementation fixes (spec/00_scope.md R9): the fixed parameters as constants,
the OPEN ones as plain data that the state carries unchanged (log entry 1), and the one free value. -/

namespace Sys2Proof

/-- REFIN_GRANULARITY: whether input reflection turns the whole word or each byte (R9, 40_crc.md R105). -/
inductive Granularity where
  | word32
  | byte
  deriving DecidableEq, Repr

/-- One element of `HostProg` (30_encoding.md R70). Bit 15 of an op word decides whether a data word
follows (R82), so each access form fixes it and carries the op word's bits [14:0] (log entry 9). -/
inductive HostOp where
  /-- `WR(op, data)` with op word `{1, addr}`. -/
  | wr (addr : BitVec 15) (data : Word)
  /-- `RD(op)` with op word `{0, addr}`. -/
  | rd (addr : BitVec 15)
  /-- `WAITFLAG`: hold until the visible flag is 1 (42_sync.md R158). -/
  | waitflag
  deriving DecidableEq, Repr

/-- The OPEN parameters of R9 other than `Mem` and `HostProg`. -/
structure Params where
  refinGranularity : Granularity
  /-- BLOCK_BASE: the window's bus address. -/
  blockBase : Word
  /-- MAX_BLOCK_SIZE, in words. -/
  maxBlockSize : Nat
  indActiveLow : Bool
  /-- TICK_UNIT in microseconds; no step reads it (43_indicator.md R185, log entry 17). -/
  tickUnit : Nat
  deriving DecidableEq, Repr

/-- POLY in normal, MSB-first form (R9; the spec's own general knowledge, log entry 15). -/
def Config.poly : Word := 0x04C11DB7

/-- THR_RESET (R9). -/
def Config.thrReset : Word := 500

/-- SYNC_STAGES: `st.sync1` and `st.sync2` (R9). -/
def Config.syncStages : Nat := 2

/-- The size in bytes of the register window (10_state.md R27). -/
def Config.windowSize : Nat := 0x400

/-- The offset of CRC_IR, so that CRC_IR_ADDR = BLOCK_BASE + 0x014 (R9). -/
def Config.crcIrOffset : Word := 0x014

/-- R9's defaults; BLOCK_BASE and TICK_UNIT have none (log entries 2 and 17: DESIGN CHOICE). -/
def Config.defaultParams : Params where
  refinGranularity := .word32
  blockBase := 0x40000000
  maxBlockSize := 4095
  indActiveLow := false
  tickUnit := 1000

/-- FREE VALUE (log entry 5). Which of several enabled agents moves at turn `n`, as an index into their
list, where the state's schedule does not say. 60_exceptions.md R204 leaves the order open, so nothing
constrains it: it has no body. -/
opaque Config.arbiter : Nat → Nat

end Sys2Proof
end

