-- ==== Sys2Proof/Syntax.lean ====
section
/-! DEFINITION. The host's register accesses: one constructor per row of spec/opcode_table.json
(30_encoding.md R80). A write carries its data word, taken as it is (R73); a read has no operand. -/

namespace Sys2Proof

/-- A decoded host operation. `WAITFLAG` has no op word and no row (R82), so it stands in `HostOp`
(Config.lean) and not here. -/
inductive Instr where
  /-- WR CRC_CFG (R91). -/
  | wrCrcCfg (data : Word)
  /-- RD CRC_CFG (R92). -/
  | rdCrcCfg
  /-- WR CRC_SEED (R93). -/
  | wrCrcSeed (data : Word)
  /-- RD CRC_SEED (R94). -/
  | rdCrcSeed
  /-- WR CRC_CHECK (R95). -/
  | wrCrcCheck (data : Word)
  /-- RD CRC_CHECK (R96). -/
  | rdCrcCheck
  /-- WR CRC_LENGTH (R97). -/
  | wrCrcLength (data : Word)
  /-- RD CRC_LENGTH (R98). -/
  | rdCrcLength
  /-- WR CRC_CTRL (R99). -/
  | wrCrcCtrl (data : Word)
  /-- RD CRC_CTRL (R100). -/
  | rdCrcCtrl
  /-- WR CRC_IR (R101). -/
  | wrCrcIr (data : Word)
  /-- RD CRC_STS (R102). -/
  | rdCrcSts
  /-- RD CRC_RES (R103). -/
  | rdCrcRes
  /-- RD CRC_CNT (R104). -/
  | rdCrcCnt
  /-- WR DMA_SAR (R121). -/
  | wrDmaSar (data : Word)
  /-- RD DMA_SAR (R122). -/
  | rdDmaSar
  /-- WR DMA_DAR (R123). -/
  | wrDmaDar (data : Word)
  /-- RD DMA_DAR (R124). -/
  | rdDmaDar
  /-- WR DMA_CTL (R125). -/
  | wrDmaCtl (data : Word)
  /-- RD DMA_CTL (R126). -/
  | rdDmaCtl
  /-- WR DMA_BLOCK (R127). -/
  | wrDmaBlock (data : Word)
  /-- RD DMA_BLOCK (R128). -/
  | rdDmaBlock
  /-- WR DMA_EVTEN (R129). -/
  | wrDmaEvten (data : Word)
  /-- RD DMA_EVTEN (R130). -/
  | rdDmaEvten
  /-- WR DMA_START (R131). -/
  | wrDmaStart (data : Word)
  /-- RD DMA_STS (R132). -/
  | rdDmaSts
  /-- WR DMA_EVTCLR (R133). -/
  | wrDmaEvtclr (data : Word)
  /-- RD DMA_REM (R134). -/
  | rdDmaRem
  /-- WR SYNC_SET (R154). -/
  | wrSyncSet (data : Word)
  /-- RD SYNC_STS (R157). -/
  | rdSyncSts
  /-- RD IND_STS (R184). -/
  | rdIndSts
  /-- RD IND_TCNT (R181). -/
  | rdIndTcnt
  /-- WR IND_THR (R182). -/
  | wrIndThr (data : Word)
  /-- RD IND_THR (R183). -/
  | rdIndThr
  deriving DecidableEq, Repr

end Sys2Proof
end

