-- ==== Sys2Proof/Machine/RegMap.lean ====
section
/-! DEFINITION. The register map of spec/10_state.md R27: names, offsets, access, reserved bits, and the
configuration registers of 30_encoding.md R86. -/

namespace Sys2Proof.Machine

/-- The 23 registers of R27. -/
inductive Reg where
  | crcCfg
  | crcSeed
  | crcCheck
  | crcLength
  | crcCtrl
  | crcIr
  | crcSts
  | crcRes
  | crcCnt
  | dmaSar
  | dmaDar
  | dmaCtl
  | dmaBlock
  | dmaEvten
  | dmaStart
  | dmaSts
  | dmaEvtclr
  | dmaRem
  | syncSet
  | syncSts
  | indSts
  | indTcnt
  | indThr
  deriving DecidableEq, Repr

/-- R27's access column. -/
inductive Access where
  | rw
  | r
  | w
  /-- `W*`: only DMA or HANDLER writes it. -/
  | wStar
  deriving DecidableEq, Repr

/-- Every register, in R27's order. -/
def Reg.all : List Reg :=
  [.crcCfg, .crcSeed, .crcCheck, .crcLength, .crcCtrl, .crcIr, .crcSts, .crcRes, .crcCnt]
  ++ [.dmaSar, .dmaDar, .dmaCtl, .dmaBlock, .dmaEvten, .dmaStart, .dmaSts, .dmaEvtclr, .dmaRem]
  ++ [.syncSet, .syncSts, .indSts, .indTcnt, .indThr]

/-- R27's offset column. -/
def Reg.offset : Reg → Offset
  | .crcCfg => 0x000
  | .crcSeed => 0x004
  | .crcCheck => 0x008
  | .crcLength => 0x00C
  | .crcCtrl => 0x010
  | .crcIr => 0x014
  | .crcSts => 0x018
  | .crcRes => 0x01C
  | .crcCnt => 0x020
  | .dmaSar => 0x100
  | .dmaDar => 0x104
  | .dmaCtl => 0x108
  | .dmaBlock => 0x10C
  | .dmaEvten => 0x110
  | .dmaStart => 0x114
  | .dmaSts => 0x118
  | .dmaEvtclr => 0x11C
  | .dmaRem => 0x120
  | .syncSet => 0x200
  | .syncSts => 0x204
  | .indSts => 0x300
  | .indTcnt => 0x304
  | .indThr => 0x308

/-- R27's access column, register by register. -/
def Reg.access : Reg → Access
  | .crcCfg => .rw
  | .crcSeed => .rw
  | .crcCheck => .rw
  | .crcLength => .rw
  | .crcCtrl => .rw
  | .crcIr => .wStar
  | .crcSts => .r
  | .crcRes => .r
  | .crcCnt => .r
  | .dmaSar => .rw
  | .dmaDar => .rw
  | .dmaCtl => .rw
  | .dmaBlock => .rw
  | .dmaEvten => .rw
  | .dmaStart => .w
  | .dmaSts => .r
  | .dmaEvtclr => .wStar
  | .dmaRem => .r
  | .syncSet => .wStar
  | .syncSts => .r
  | .indSts => .r
  | .indTcnt => .r
  | .indThr => .rw

/-- The mask of a register's reserved bits (R27's fields column; R28). -/
def Reg.reserved : Reg → Word
  | .crcCfg => 0xFFFFFFF8
  | .crcSeed => 0
  | .crcCheck => 0
  | .crcLength => 0
  | .crcCtrl => 0xFFFFFFFE
  | .crcIr => 0
  | .crcSts => 0xFFFFFFFE
  | .crcRes => 0
  | .crcCnt => 0
  | .dmaSar => 0
  | .dmaDar => 0
  | .dmaCtl => 0xFFFFEC88
  | .dmaBlock => 0xFFFF0000
  | .dmaEvten => 0xFFFFFFFE
  | .dmaStart => 0xFFFFFFFE
  | .dmaSts => 0xFFFFFFCC
  | .dmaEvtclr => 0xFFFFFFFE
  | .dmaRem => 0xFFFF0000
  | .syncSet => 0xFFFFFFFE
  | .syncSts => 0xFFFFFFFE
  | .indSts => 0xFFFFFFCC
  | .indTcnt => 0
  | .indThr => 0

/-- The configuration registers, whose writes are locked while the DMA is not IDLE (30_encoding.md R86). -/
def Reg.isConfig : Reg → Bool
  | .crcCfg => true
  | .crcSeed => true
  | .crcCheck => true
  | .crcLength => true
  | .crcCtrl => true
  | .crcIr => false
  | .crcSts => false
  | .crcRes => false
  | .crcCnt => false
  | .dmaSar => true
  | .dmaDar => true
  | .dmaCtl => true
  | .dmaBlock => true
  | .dmaEvten => true
  | .dmaStart => false
  | .dmaSts => false
  | .dmaEvtclr => false
  | .dmaRem => false
  | .syncSet => false
  | .syncSts => false
  | .indSts => false
  | .indTcnt => false
  | .indThr => true

/-- The register at an offset, if the offset is mapped (30_encoding.md R72). -/
def Reg.atOffset (off : Offset) : Option Reg := Reg.all.find? fun r => r.offset == off

end Sys2Proof.Machine

namespace Sys2Proof

open Machine

/-- The register an instruction accesses. -/
def Instr.reg : Instr → Reg
  | .wrCrcCfg _ => .crcCfg
  | .rdCrcCfg => .crcCfg
  | .wrCrcSeed _ => .crcSeed
  | .rdCrcSeed => .crcSeed
  | .wrCrcCheck _ => .crcCheck
  | .rdCrcCheck => .crcCheck
  | .wrCrcLength _ => .crcLength
  | .rdCrcLength => .crcLength
  | .wrCrcCtrl _ => .crcCtrl
  | .rdCrcCtrl => .crcCtrl
  | .wrCrcIr _ => .crcIr
  | .rdCrcSts => .crcSts
  | .rdCrcRes => .crcRes
  | .rdCrcCnt => .crcCnt
  | .wrDmaSar _ => .dmaSar
  | .rdDmaSar => .dmaSar
  | .wrDmaDar _ => .dmaDar
  | .rdDmaDar => .dmaDar
  | .wrDmaCtl _ => .dmaCtl
  | .rdDmaCtl => .dmaCtl
  | .wrDmaBlock _ => .dmaBlock
  | .rdDmaBlock => .dmaBlock
  | .wrDmaEvten _ => .dmaEvten
  | .rdDmaEvten => .dmaEvten
  | .wrDmaStart _ => .dmaStart
  | .rdDmaSts => .dmaSts
  | .wrDmaEvtclr _ => .dmaEvtclr
  | .rdDmaRem => .dmaRem
  | .wrSyncSet _ => .syncSet
  | .rdSyncSts => .syncSts
  | .rdIndSts => .indSts
  | .rdIndTcnt => .indTcnt
  | .wrIndThr _ => .indThr
  | .rdIndThr => .indThr

/-- The data word a write carries, and 0 for a read. -/
def Instr.operand : Instr → Word
  | .wrCrcCfg data => data
  | .rdCrcCfg => 0
  | .wrCrcSeed data => data
  | .rdCrcSeed => 0
  | .wrCrcCheck data => data
  | .rdCrcCheck => 0
  | .wrCrcLength data => data
  | .rdCrcLength => 0
  | .wrCrcCtrl data => data
  | .rdCrcCtrl => 0
  | .wrCrcIr data => data
  | .rdCrcSts => 0
  | .rdCrcRes => 0
  | .rdCrcCnt => 0
  | .wrDmaSar data => data
  | .rdDmaSar => 0
  | .wrDmaDar data => data
  | .rdDmaDar => 0
  | .wrDmaCtl data => data
  | .rdDmaCtl => 0
  | .wrDmaBlock data => data
  | .rdDmaBlock => 0
  | .wrDmaEvten data => data
  | .rdDmaEvten => 0
  | .wrDmaStart data => data
  | .rdDmaSts => 0
  | .wrDmaEvtclr data => data
  | .rdDmaRem => 0
  | .wrSyncSet data => data
  | .rdSyncSts => 0
  | .rdIndSts => 0
  | .rdIndTcnt => 0
  | .wrIndThr data => data
  | .rdIndThr => 0

end Sys2Proof
end

