-- ==== Sys2Proof/WellFormed.lean ====
section
/-! DEFINITION. Well-formedness: of an instruction (no 1 in a reserved bit of its data word,
spec/10_state.md R28) and of the parameters (00_scope.md R9). Neither is needed for a meaning: an
ill-formed write runs and raises F_RESERVED. -/

namespace Sys2Proof

open Machine

/-- R28: no 1 in a reserved bit of the target register. -/
def Instr.wf (i : Instr) : Bool := i.operand &&& i.reg.reserved == 0

/-- R9's side conditions on BLOCK_BASE: word-aligned, and the window does not wrap past 2^32. -/
def Params.wf (p : Params) : Bool :=
  p.blockBase.toNat % 4 == 0 && decide (p.blockBase.toNat + 0x3FF < 2 ^ 32)

end Sys2Proof
end

