-- ==== Sys2Proof/Decode.lean ====
section
/-! DEFINITION. Decoding and encoding of host operations (spec/30_encoding.md R71 to R73, R80 to R82).
The op words have no byte order: the block fetches no instructions (20_memory.md R50), so the decoder
reads words, not bytes (log entry 10). -/

namespace Sys2Proof

open Machine

/-- Why R72 rejects an op word. Each one is F_ACCESS with the op word as info; the names are the
model's own (log entry 19). -/
inductive DecodeReject where
  /-- `Z != 0`. -/
  | reservedZ
  /-- `OFF[1:0] != 0`. -/
  | misaligned
  /-- No register at the offset, `OFF_HI != 0` included. -/
  | unmapped
  /-- A write of an `R` register. -/
  | writeOfReadOnly
  /-- A read of a `W` or `W*` register. -/
  | readOfWriteOnly
  deriving DecidableEq, Repr

/-- The write operation of a register, where its access admits one (R27, R80). -/
def writeInstr (data : Word) : Reg → Option Instr
  | .crcCfg => some (.wrCrcCfg data)
  | .crcSeed => some (.wrCrcSeed data)
  | .crcCheck => some (.wrCrcCheck data)
  | .crcLength => some (.wrCrcLength data)
  | .crcCtrl => some (.wrCrcCtrl data)
  | .crcIr => some (.wrCrcIr data)
  | .crcSts => none
  | .crcRes => none
  | .crcCnt => none
  | .dmaSar => some (.wrDmaSar data)
  | .dmaDar => some (.wrDmaDar data)
  | .dmaCtl => some (.wrDmaCtl data)
  | .dmaBlock => some (.wrDmaBlock data)
  | .dmaEvten => some (.wrDmaEvten data)
  | .dmaStart => some (.wrDmaStart data)
  | .dmaSts => none
  | .dmaEvtclr => some (.wrDmaEvtclr data)
  | .dmaRem => none
  | .syncSet => some (.wrSyncSet data)
  | .syncSts => none
  | .indSts => none
  | .indTcnt => none
  | .indThr => some (.wrIndThr data)

/-- The read operation of a register, where its access admits one (R27, R80). -/
def readInstr : Reg → Option Instr
  | .crcCfg => some .rdCrcCfg
  | .crcSeed => some .rdCrcSeed
  | .crcCheck => some .rdCrcCheck
  | .crcLength => some .rdCrcLength
  | .crcCtrl => some .rdCrcCtrl
  | .crcIr => none
  | .crcSts => some .rdCrcSts
  | .crcRes => some .rdCrcRes
  | .crcCnt => some .rdCrcCnt
  | .dmaSar => some .rdDmaSar
  | .dmaDar => some .rdDmaDar
  | .dmaCtl => some .rdDmaCtl
  | .dmaBlock => some .rdDmaBlock
  | .dmaEvten => some .rdDmaEvten
  | .dmaStart => none
  | .dmaSts => some .rdDmaSts
  | .dmaEvtclr => none
  | .dmaRem => some .rdDmaRem
  | .syncSet => none
  | .syncSts => some .rdSyncSts
  | .indSts => some .rdIndSts
  | .indTcnt => some .rdIndTcnt
  | .indThr => some .rdIndThr

/-- R72: decode op word `o` with the data word that follows it (ignored by a read). Total on every
16-bit value. -/
def decode (o : OpWord) (data : Word) : Except DecodeReject Instr :=
  if o.extractLsb' 12 3 ≠ 0 then .error .reservedZ
  else if o.extractLsb' 0 2 ≠ 0 then .error .misaligned
  else
    match Reg.atOffset (o.extractLsb' 0 12) with
    | none => .error .unmapped
    | some r =>
      if o.getLsbD 15 then
        match writeInstr data r with
        | some i => .ok i
        | none => .error .writeOfReadOnly
      else
        match readInstr r with
        | some i => .ok i
        | none => .error .readOfWriteOnly

/-- The op word of a host operation, with bit 15 as its form fixes it (R71, R82). -/
def HostOp.opWord : HostOp → Option OpWord
  | .wr addr _ => some (1#1 ++ addr)
  | .rd addr => some (0#1 ++ addr)
  | .waitflag => none

/-- The host operation of an op word and the data word after it: bit 15 alone decides whether there is
one (R82). -/
def HostOp.ofWords (o : OpWord) (data : Word) : HostOp :=
  if o.getLsbD 15 then .wr (o.setWidth 15) data else .rd (o.setWidth 15)

/-- The op words of R80. -/
def Instr.opWord : Instr → OpWord
  | .wrCrcCfg _ => 0x8000
  | .rdCrcCfg => 0x0000
  | .wrCrcSeed _ => 0x8004
  | .rdCrcSeed => 0x0004
  | .wrCrcCheck _ => 0x8008
  | .rdCrcCheck => 0x0008
  | .wrCrcLength _ => 0x800C
  | .rdCrcLength => 0x000C
  | .wrCrcCtrl _ => 0x8010
  | .rdCrcCtrl => 0x0010
  | .wrCrcIr _ => 0x8014
  | .rdCrcSts => 0x0018
  | .rdCrcRes => 0x001C
  | .rdCrcCnt => 0x0020
  | .wrDmaSar _ => 0x8100
  | .rdDmaSar => 0x0100
  | .wrDmaDar _ => 0x8104
  | .rdDmaDar => 0x0104
  | .wrDmaCtl _ => 0x8108
  | .rdDmaCtl => 0x0108
  | .wrDmaBlock _ => 0x810C
  | .rdDmaBlock => 0x010C
  | .wrDmaEvten _ => 0x8110
  | .rdDmaEvten => 0x0110
  | .wrDmaStart _ => 0x8114
  | .rdDmaSts => 0x0118
  | .wrDmaEvtclr _ => 0x811C
  | .rdDmaRem => 0x0120
  | .wrSyncSet _ => 0x8200
  | .rdSyncSts => 0x0204
  | .rdIndSts => 0x0300
  | .rdIndTcnt => 0x0304
  | .wrIndThr _ => 0x8308
  | .rdIndThr => 0x0308

/-- The data word of a write; a read has none (R82). -/
def Instr.dataWord : Instr → Option Word
  | .wrCrcCfg data => some data
  | .rdCrcCfg => none
  | .wrCrcSeed data => some data
  | .rdCrcSeed => none
  | .wrCrcCheck data => some data
  | .rdCrcCheck => none
  | .wrCrcLength data => some data
  | .rdCrcLength => none
  | .wrCrcCtrl data => some data
  | .rdCrcCtrl => none
  | .wrCrcIr data => some data
  | .rdCrcSts => none
  | .rdCrcRes => none
  | .rdCrcCnt => none
  | .wrDmaSar data => some data
  | .rdDmaSar => none
  | .wrDmaDar data => some data
  | .rdDmaDar => none
  | .wrDmaCtl data => some data
  | .rdDmaCtl => none
  | .wrDmaBlock data => some data
  | .rdDmaBlock => none
  | .wrDmaEvten data => some data
  | .rdDmaEvten => none
  | .wrDmaStart data => some data
  | .rdDmaSts => none
  | .wrDmaEvtclr data => some data
  | .rdDmaRem => none
  | .wrSyncSet data => some data
  | .rdSyncSts => none
  | .rdIndSts => none
  | .rdIndTcnt => none
  | .wrIndThr data => some data
  | .rdIndThr => none

/-- R82: the words of an instruction, as the element of `HostProg` that holds them. -/
def encode (i : Instr) : HostOp := HostOp.ofWords i.opWord (i.dataWord.getD 0)

/-- The instruction of a word numbered as spec/opcode_table.json numbers it: the op word is bits [15:0]
and a write's data word bits [47:16]; every bit above `nbits` is 0. -/
def decodeTableWord (nbits w : Nat) : Option Instr :=
  match decode (BitVec.ofNat 16 (w % 2 ^ nbits)) (BitVec.ofNat 32 (w % 2 ^ nbits / 2 ^ 16)) with
  | .ok i => some i
  | .error _ => none

end Sys2Proof
end

