-- ==== Sys2Proof/Machine/State.lean ====
section
/-! DEFINITION. The state of the block as plain data (spec/10_state.md R25, R27), the fault record
(60_exceptions.md R200, R202), and the state after reset (70_reset_and_hazards.md R230). -/

namespace Sys2Proof.Machine

/-- The six agents (00_scope.md R8). -/
inductive Agent where
  | host
  | dma
  | handler
  | sync
  | ind
  | tick
  deriving DecidableEq, Repr

/-- `st.dma_state` (R25). -/
inductive DmaState where
  | idle
  | busy
  | done
  deriving DecidableEq, Repr

/-- `st.ind_state` (R25; 43_indicator.md R175). -/
inductive IndState where
  | waiting
  | checking
  | verified
  | mismatchBlink
  deriving DecidableEq, Repr

/-- The fields of CRC_CFG (R27). -/
structure CrcCfg where
  refin : Bool
  refout : Bool
  xorout : Bool
  deriving DecidableEq, Repr

/-- The fields of DMA_CTL (R27). -/
structure DmaCtl where
  width : BitVec 3
  burst : BitVec 3
  tt : BitVec 2
  intEn : Bool
  deriving DecidableEq, Repr

/-- The 13 fault codes, F_ACCESS to F_ORDER (60_exceptions.md R200). -/
inductive FaultCode where
  | access
  | reserved
  | locked
  | writer
  | unwritten
  | desc
  | length
  | restart
  | mem
  | undefResult
  | overrun
  | threshold
  | order
  deriving DecidableEq, Repr

/-- The info of a fault record, one form per kind of value in R200's info column. -/
inductive FaultInfo where
  /-- F_ACCESS: the op word. -/
  | opWord (o : OpWord)
  /-- F_LOCKED, F_WRITER, F_UNWRITTEN of a read, F_THRESHOLD, F_ORDER of a read: the offset. -/
  | offset (off : Offset)
  /-- F_RESERVED: the offset and the data. -/
  | offsetData (off : Offset) (data : Word)
  /-- F_UNWRITTEN outside a read: the register. -/
  | register (r : Reg)
  /-- F_DESC: the offending value, zero-extended. -/
  | value (v : Word)
  /-- F_LENGTH: BLOCK and LENGTH. -/
  | lengths (block : BitVec 16) (length : Word)
  /-- F_RESTART: `st.dma_state`. -/
  | dmaState (d : DmaState)
  /-- F_MEM: the address. -/
  | address (a : Word)
  /-- F_UNDEF_RESULT: the count with `st.sync2` (HOST) or AUTOCHK (IND). -/
  | countBit (count : Word) (b : Bool)
  /-- F_OVERRUN: the count. -/
  | count (count : Word)
  /-- F_ORDER at WAITFLAG. -/
  | waitflag
  deriving DecidableEq, Repr

/-- The code and info of one `raise` (00_scope.md R14). -/
structure Cause where
  code : FaultCode
  info : FaultInfo
  deriving DecidableEq, Repr

/-- `{code, agent, hpc, info}` (60_exceptions.md R202). -/
structure FaultRecord where
  code : FaultCode
  agent : Agent
  hpc : Nat
  info : FaultInfo
  deriving DecidableEq, Repr

/-- One completed read: host index, offset, value (30_encoding.md R77). -/
structure LogEntry where
  index : Nat
  offset : Offset
  value : Word
  deriving DecidableEq, Repr

/-- The launch memory `Mem` (20_memory.md R58): its admitted bytes, by strictly rising address. A byte
that is not listed is not admitted and has no value. -/
abbrev Memory := List Host.Cell

/-- Why a step gives no next state. The block's own 13 faults are not here: taking one is a next state
with the record in `State.fault` (log entry 8). -/
inductive Fault where
  /-- Raised by `step` on a machine whose fault record is set: a faulted machine has no step until reset
  (60_exceptions.md R201). Safe: the spec gives such a machine no step either. -/
  | halted (r : FaultRecord)
  deriving DecidableEq, Repr

/-- Why an instruction has no meaning. -/
inductive Refusal where
  /-- Raised by an arm of `exec` whose instruction has no meaning yet. Safe. No arm raises it: every
  instruction has its meaning. -/
  | notModelled (mnemonic : String)
  deriving DecidableEq, Repr

/-- The machine. `none` in a register means unwritten since reset, the spec's own value (00_scope.md R12). -/
structure State where
  -- register-backed configuration (R27)
  crcCfg : Option CrcCfg
  crcSeed : Option Word
  crcCheck : Option Word
  crcLength : Option Word
  autochk : Bool
  dmaSar : Option Word
  dmaDar : Option Word
  dmaCtl : Option DmaCtl
  dmaBlock : Option (BitVec 16)
  evtEn : Bool
  indThr : Word
  -- internal state (R25)
  crcState : Option Word
  count : Word
  resValid : Bool
  resMismatch : Bool
  dmaState : DmaState
  curSrc : Word
  rem : BitVec 16
  evtRaw : Bool
  flagSrc : Bool
  sync1 : Bool
  sync2 : Bool
  handlerCount : Nat
  indState : IndState
  out : Bool
  tickCnt : Word
  hpc : Nat
  hostlog : List LogEntry
  fault : Option FaultRecord
  -- the parameters (00_scope.md R9), which no step writes (log entry 1)
  params : Params
  hostProg : List HostOp
  mem : Memory
  -- the model's own: who moves next (log entry 5) and the turn its free choice is read at (log entry 6)
  sched : List Agent
  turn : Nat
  deriving DecidableEq, Repr

/-- The state after reset (R230). Parameters stand at R9's defaults; no memory, no host program and no
schedule are laid down (log entries 2 to 6). -/
def State.reset : State where
  crcCfg := none
  crcSeed := none
  crcCheck := none
  crcLength := none
  autochk := false
  dmaSar := none
  dmaDar := none
  dmaCtl := none
  dmaBlock := none
  evtEn := false
  indThr := Config.thrReset
  crcState := none
  count := 0
  resValid := false
  resMismatch := false
  dmaState := .idle
  curSrc := 0
  rem := 0
  evtRaw := false
  flagSrc := false
  sync1 := false
  sync2 := false
  handlerCount := 0
  indState := .waiting
  out := false
  tickCnt := 0
  hpc := 0
  hostlog := []
  fault := none
  params := Config.defaultParams
  hostProg := []
  mem := []
  sched := []
  turn := 0

end Sys2Proof.Machine
end

