-- ==== Sys2Proof/Machine/CrcMath.lean ====
section
/-! DEFINITION. The CRC mathematics: bit reversal (spec/00_scope.md R16), the input transform, the CRC
step and the final value (40_crc.md R105, R107, R108). -/

namespace Sys2Proof.Machine

/-- `rev32(x)[i] = x[31-i]` (R16). -/
def rev32 (x : Word) : Word := x.reverse

/-- `rev8each(x)[8k+i] = x[8k+7-i]` (R16). -/
def rev8each (x : Word) : Word :=
  (x.extractLsb' 24 8).reverse ++ (x.extractLsb' 16 8).reverse ++ (x.extractLsb' 8 8).reverse
    ++ (x.extractLsb' 0 8).reverse

/-- R105: the input transform under a configuration and a reflection granularity. -/
def din (g : Granularity) (cfg : CrcCfg) (w : Word) : Word :=
  if cfg.refin then
    match g with
    | .word32 => rev32 w
    | .byte => rev8each w
  else w

/-- One shift of R107's register. -/
def crcShift (r : Word) : Word :=
  if r.getLsbD 31 then (r <<< 1) ^^^ Config.poly else r <<< 1

/-- `n` shifts of R107's register. -/
def crcShifts : Nat → Word → Word
  | 0, r => r
  | n + 1, r => crcShifts n (crcShift r)

/-- `crc32_step(c, d)`: 32 shifts of `c ^ d` (R107). -/
def crc32Step (c d : Word) : Word := crcShifts 32 (c ^^^ d)

/-- `final(c)`: reflect, then invert (R108). -/
def crcFinal (cfg : CrcCfg) (c : Word) : Word :=
  (if cfg.refout then rev32 c else c) ^^^ (if cfg.xorout then 0xFFFFFFFF else 0x00000000)

end Sys2Proof.Machine
end

