-- ==== Sys2Proof/Machine/Operands.lean ====
section
/-! DEFINITION. Operand assembly (spec/30_encoding.md R73): the fields of a data word, the read value
of each register (10_state.md R27, R32), and the codes that registers show. -/

namespace Sys2Proof.Machine

/-- A bit zero-extended to a u32. -/
def zextBit (b : Bool) : Word := (BitVec.ofBool b).setWidth 32

/-- The code of `st.dma_state` (10_state.md R25). -/
def DmaState.code : DmaState → BitVec 2
  | .idle => 0
  | .busy => 1
  | .done => 2

/-- The code of `st.ind_state` (43_indicator.md R175). -/
def IndState.code : IndState → BitVec 2
  | .waiting => 0
  | .checking => 1
  | .verified => 2
  | .mismatchBlink => 3

/-- CRC_CFG's fields of a data word (40_crc.md R91). -/
def CrcCfg.ofData (data : Word) : CrcCfg where
  refin := data.getLsbD 0
  refout := data.getLsbD 1
  xorout := data.getLsbD 2

/-- CRC_CFG as it reads: `zext_32({XOROUT, REFOUT, REFIN})` (40_crc.md R92). -/
def CrcCfg.toWord (c : CrcCfg) : Word :=
  (BitVec.ofBool c.xorout ++ BitVec.ofBool c.refout ++ BitVec.ofBool c.refin).setWidth 32

/-- DMA_CTL's fields of a data word (41_dma.md R125). -/
def DmaCtl.ofData (data : Word) : DmaCtl where
  width := data.extractLsb' 0 3
  burst := data.extractLsb' 4 3
  tt := data.extractLsb' 8 2
  intEn := data.getLsbD 12

/-- DMA_CTL as it reads: `zext_32({INT_EN, 00, TT, 0, BURST, 0, WIDTH})` (41_dma.md R126). -/
def DmaCtl.toWord (c : DmaCtl) : Word :=
  (BitVec.ofBool c.intEn ++ 0#2 ++ c.tt ++ 0#1 ++ c.burst ++ 0#1 ++ c.width).setWidth 32

/-- A status word `{bit 5, bit 4, 00, code}`, the shape of DMA_STS and IND_STS (10_state.md R27). -/
def statusWord (b5 b4 : Bool) (code : BitVec 2) : Word :=
  (BitVec.ofBool b5 ++ BitVec.ofBool b4 ++ 0#2 ++ code).setWidth 32

/-- The numeric code of a fault (60_exceptions.md R200). -/
def FaultCode.code : FaultCode → Nat
  | .access => 0x01
  | .reserved => 0x02
  | .locked => 0x03
  | .writer => 0x04
  | .unwritten => 0x05
  | .desc => 0x06
  | .length => 0x07
  | .restart => 0x08
  | .mem => 0x09
  | .undefResult => 0x0A
  | .overrun => 0x0B
  | .threshold => 0x0C
  | .order => 0x0D

end Sys2Proof.Machine
end

