-- ==== Sys2Proof/Machine/Flags.lean ====
section
/-! DEFINITION. The flags of spec/10_state.md section 2 and the derived conditions over them. -/

namespace Sys2Proof.Machine

/-- `irq = st.evt_raw & DMA_EVTEN.EN`, combinational (10_state.md R24; 42_sync.md R150). -/
def State.irq (s : State) : Bool := s.evtRaw && s.evtEn

/-- Locked: `st.dma_state != IDLE` (00_scope.md R18; 30_encoding.md R86). -/
def State.locked (s : State) : Bool := s.dmaState != .idle

/-- The mismatch result as HOST may read it: latched, and the flag visible (40_crc.md R102). -/
def State.resultReadable (s : State) : Bool := s.resValid && s.sync2

/-- `IND_STS.ARMED`: the ticker is armed exactly in MISMATCH_BLINK (10_state.md R32; 00_scope.md R18). -/
def State.armed (s : State) : Bool := s.indState == .mismatchBlink

/-- DMA_STS as it reads (41_dma.md R132). -/
def State.dmaStsWord (s : State) : Word := statusWord s.irq s.evtRaw s.dmaState.code

/-- IND_STS as it reads (43_indicator.md R184). -/
def State.indStsWord (s : State) : Word := statusWord s.armed s.out s.indState.code

/-- The physical output `st.out ^ IND_ACTIVE_LOW` (43_indicator.md R180). -/
def State.pin (s : State) : Bool := s.out ^^ s.params.indActiveLow

/-- `CRC_IR_ADDR = BLOCK_BASE + 0x014` (00_scope.md R9). -/
def Params.crcIrAddr (p : Params) : Word := p.blockBase + Config.crcIrOffset

end Sys2Proof.Machine
end

