-- ==== Sys2Proof/Machine/Ops.lean ====
section
/-! DEFINITION. The named operations over memory and registers: `MemRead` (spec/00_scope.md R13),
raising a fault (00_scope.md R14; 60_exceptions.md R201, R202), completing a host operation
(30_encoding.md R76, R77), and the write and read checks (30_encoding.md R78, R79). -/

namespace Sys2Proof.Machine

/-- The byte at an address, if `Mem` admits it (20_memory.md R58). -/
def Memory.readByte : Memory → Nat → Option Byte
  | [], _ => none
  | (k, b) :: m, a => if k = a then some b else Memory.readByte m a

/-- `MemRead(addr, 4)`: the little-endian word at `addr .. addr+3`, or nothing where a byte is not
admitted (00_scope.md R13; 20_memory.md R50). Addresses wrap modulo 2^32 (R11, log entry 13). -/
def Memory.readWord (m : Memory) (a : Word) : Option Word :=
  match m.readByte a.toNat, m.readByte (a + 1).toNat, m.readByte (a + 2).toNat,
    m.readByte (a + 3).toNat with
  | some b0, some b1, some b2, some b3 => some (b3 ++ b2 ++ b1 ++ b0)
  | _, _, _, _ => none

/-- Admit a byte at an address, at its place. It lays a launch memory out before reset ends
(70_reset_and_hazards.md R233); no step calls it, since nothing in the block writes memory (R13). -/
def Memory.insertByte : Memory → Nat → Byte → Memory
  | [], a, b => [(a, b)]
  | (k, c) :: m, a, b =>
    if a < k then (a, b) :: (k, c) :: m
    else if a = k then (a, b) :: m
    else (k, c) :: Memory.insertByte m a b

/-- The canonical form: addresses strictly rising and inside the 32-bit space. -/
def Memory.wf (m : Memory) : Bool :=
  decide (m.Pairwise fun c d => c.1 < d.1) && m.all fun c => decide (c.1 < 2 ^ 32)

/-- TAKING A FAULT, the one operation that does it: the record is written and nothing else changes
(00_scope.md R14; 60_exceptions.md R201, R202). There is no return: only reset clears it. -/
def State.raise (s : State) (a : Agent) (c : Cause) : State :=
  { s with fault := some ⟨c.code, a, if a = .host then s.hpc else 0, c.info⟩ }

/-- A host operation completes (30_encoding.md R76). -/
def State.advance (s : State) : State := { s with hpc := s.hpc + 1 }

/-- A read completes: its value is logged under the index before the advance (30_encoding.md R77). -/
def State.completeRead (s : State) (r : Reg) (v : Word) : State :=
  { s with
    hostlog := s.hostlog ++ [⟨s.hpc, r.offset, v⟩]
    hpc := s.hpc + 1 }

/-- Checks 2 to 4 of a write, in order: writer, lock, reserved bits (30_encoding.md R78). -/
def writeCheck (r : Reg) (data : Word) (s : State) : Option Cause :=
  if r.access = .wStar then some ⟨.writer, .offset r.offset⟩
  else if r.isConfig && s.locked then some ⟨.locked, .offset r.offset⟩
  else if data &&& r.reserved ≠ 0 then some ⟨.reserved, .offsetData r.offset data⟩
  else none

/-- A host write: the checks of R78, then what the register's own rule does. -/
def hostWrite (r : Reg) (data : Word) (s : State) (perform : State → State) : State :=
  match writeCheck r data s with
  | some c => s.raise .host c
  | none => perform s

/-- A host read of a stored register: F_UNWRITTEN while it holds `none` (30_encoding.md R79), else its
value is read. -/
def readStored (r : Reg) (v : Option Word) (s : State) : State :=
  match v with
  | none => s.raise .host ⟨.unwritten, .offset r.offset⟩
  | some w => s.completeRead r w

/-- A use of a register by a rule, which faults where it holds `none` (00_scope.md R12). -/
def written {α : Type} (r : Reg) : Option α → Except Cause α
  | none => .error ⟨.unwritten, .register r⟩
  | some v => .ok v

/-- What a checked step gives: its state, or the fault record over the state as it was (R14). -/
def State.settle (s : State) (a : Agent) : Except Cause State → State
  | .ok t => t
  | .error c => s.raise a c

end Sys2Proof.Machine
end

