-- ==== Sys2Proof/Machine/Crc.lean ====
section
/-! DEFINITION. The CRC unit (spec/40_crc.md): its register accesses and the fold. -/

namespace Sys2Proof.Machine

/-- WR CRC_CFG (R91). -/
def execWrCrcCfg (data : Word) (s : State) : Host.Outcome State Fault Refusal :=
  .next (hostWrite .crcCfg data s fun t => State.advance { t with crcCfg := some (CrcCfg.ofData data) })

/-- RD CRC_CFG (R92). -/
def execRdCrcCfg (s : State) : Host.Outcome State Fault Refusal :=
  .next (readStored .crcCfg (s.crcCfg.map CrcCfg.toWord) s)

/-- WR CRC_SEED: it also resets the running CRC, the count and the result (R93). -/
def execWrCrcSeed (data : Word) (s : State) : Host.Outcome State Fault Refusal :=
  .next (hostWrite .crcSeed data s fun t =>
    State.advance { t with
      crcSeed := some data
      crcState := some data
      count := 0
      resValid := false
      resMismatch := false })

/-- RD CRC_SEED: the seed, not the running state (R94). -/
def execRdCrcSeed (s : State) : Host.Outcome State Fault Refusal :=
  .next (readStored .crcSeed s.crcSeed s)

/-- WR CRC_CHECK (R95). -/
def execWrCrcCheck (data : Word) (s : State) : Host.Outcome State Fault Refusal :=
  .next (hostWrite .crcCheck data s fun t => State.advance { t with crcCheck := some data })

/-- RD CRC_CHECK (R96). -/
def execRdCrcCheck (s : State) : Host.Outcome State Fault Refusal :=
  .next (readStored .crcCheck s.crcCheck s)

/-- WR CRC_LENGTH (R97). -/
def execWrCrcLength (data : Word) (s : State) : Host.Outcome State Fault Refusal :=
  .next (hostWrite .crcLength data s fun t => State.advance { t with crcLength := some data })

/-- RD CRC_LENGTH (R98). -/
def execRdCrcLength (s : State) : Host.Outcome State Fault Refusal :=
  .next (readStored .crcLength s.crcLength s)

/-- WR CRC_CTRL (R99). -/
def execWrCrcCtrl (data : Word) (s : State) : Host.Outcome State Fault Refusal :=
  .next (hostWrite .crcCtrl data s fun t => State.advance { t with autochk := data.getLsbD 0 })

/-- RD CRC_CTRL (R100). -/
def execRdCrcCtrl (s : State) : Host.Outcome State Fault Refusal :=
  .next (s.completeRead .crcCtrl (zextBit s.autochk))

/-- WR CRC_IR by HOST: refused with F_WRITER by the writer check, so nothing is performed (R101). -/
def execWrCrcIr (data : Word) (s : State) : Host.Outcome State Fault Refusal :=
  .next (hostWrite .crcIr data s fun t => t)

/-- RD CRC_STS (R102). -/
def execRdCrcSts (s : State) : Host.Outcome State Fault Refusal :=
  .next (if s.resultReadable then s.completeRead .crcSts (zextBit s.resMismatch)
    else s.raise .host ⟨.undefResult, .countBit s.count s.sync2⟩)

/-- RD CRC_RES (R103). -/
def execRdCrcRes (s : State) : Host.Outcome State Fault Refusal :=
  .next (readStored .crcRes
    (s.crcCfg.bind fun cfg => s.crcState.map fun c => crcFinal cfg c) s)

/-- RD CRC_CNT (R104). -/
def execRdCrcCnt (s : State) : Host.Outcome State Fault Refusal :=
  .next (s.completeRead .crcCnt s.count)

/-- A fold past LENGTH with AUTOCHK armed is F_OVERRUN (R106, R109). -/
def overrunCheck (s : State) : Except Cause Unit :=
  if s.autochk then do
    let len ← written .crcLength s.crcLength
    if len ≤ s.count then .error ⟨.overrun, .count s.count⟩ else .ok ()
  else .ok ()

/-- The latch: with AUTOCHK armed, the word that makes the count LENGTH fixes the result (R106, R109). -/
def latchResult (cfg : CrcCfg) (c : Word) (s : State) : Except Cause State :=
  if s.autochk then do
    let len ← written .crcLength s.crcLength
    if s.count = len then do
      let check ← written .crcCheck s.crcCheck
      .ok { s with resMismatch := crcFinal cfg c != check, resValid := true }
    else .ok s
  else .ok s

/-- `CrcFold(w)` (R106). The tests for `none` are never met after an accepted DMA_START (log entry 12). -/
def crcFold (w : Word) (s : State) : Except Cause State := do
  overrunCheck s
  let cfg ← written .crcCfg s.crcCfg
  let c0 ← written .crcSeed s.crcState
  let c := crc32Step c0 (din s.params.refinGranularity cfg w)
  latchResult cfg c { s with crcState := some c, count := s.count + 1 }

end Sys2Proof.Machine
end

