-- ==== Sys2Proof/Machine/Dma.lean ====
section
/-! DEFINITION. The DMA engine (spec/41_dma.md): its register accesses and the word step. -/

namespace Sys2Proof.Machine

/-- WR DMA_SAR (R121). -/
def execWrDmaSar (data : Word) (s : State) : Host.Outcome State Fault Refusal :=
  .next (hostWrite .dmaSar data s fun t => State.advance { t with dmaSar := some data })

/-- RD DMA_SAR (R122). -/
def execRdDmaSar (s : State) : Host.Outcome State Fault Refusal :=
  .next (readStored .dmaSar s.dmaSar s)

/-- WR DMA_DAR (R123). -/
def execWrDmaDar (data : Word) (s : State) : Host.Outcome State Fault Refusal :=
  .next (hostWrite .dmaDar data s fun t => State.advance { t with dmaDar := some data })

/-- RD DMA_DAR (R124). -/
def execRdDmaDar (s : State) : Host.Outcome State Fault Refusal :=
  .next (readStored .dmaDar s.dmaDar s)

/-- WR DMA_CTL (R125). -/
def execWrDmaCtl (data : Word) (s : State) : Host.Outcome State Fault Refusal :=
  .next (hostWrite .dmaCtl data s fun t => State.advance { t with dmaCtl := some (DmaCtl.ofData data) })

/-- RD DMA_CTL (R126). -/
def execRdDmaCtl (s : State) : Host.Outcome State Fault Refusal :=
  .next (readStored .dmaCtl (s.dmaCtl.map DmaCtl.toWord) s)

/-- WR DMA_BLOCK (R127). -/
def execWrDmaBlock (data : Word) (s : State) : Host.Outcome State Fault Refusal :=
  .next (hostWrite .dmaBlock data s fun t =>
    State.advance { t with dmaBlock := some (data.extractLsb' 0 16) })

/-- RD DMA_BLOCK (R128). -/
def execRdDmaBlock (s : State) : Host.Outcome State Fault Refusal :=
  .next (readStored .dmaBlock (s.dmaBlock.map (BitVec.setWidth 32)) s)

/-- WR DMA_EVTEN (R129). -/
def execWrDmaEvten (data : Word) (s : State) : Host.Outcome State Fault Refusal :=
  .next (hostWrite .dmaEvten data s fun t => State.advance { t with evtEn := data.getLsbD 0 })

/-- RD DMA_EVTEN (R130). -/
def execRdDmaEvten (s : State) : Host.Outcome State Fault Refusal :=
  .next (s.completeRead .dmaEvten (zextBit s.evtEn))

/-- What DMA_START reads of the descriptor and the CRC configuration (R131). -/
structure StartOperands where
  sar : Word
  dar : Word
  ctl : DmaCtl
  block : BitVec 16
  length : Word
  deriving DecidableEq, Repr

/-- R131's unwritten check: the first register of its list that holds `none`. -/
def startOperands (s : State) : Except Cause StartOperands := do
  let sar ← written .dmaSar s.dmaSar
  let dar ← written .dmaDar s.dmaDar
  let ctl ← written .dmaCtl s.dmaCtl
  let block ← written .dmaBlock s.dmaBlock
  let _ ← written .crcCfg s.crcCfg
  let _ ← written .crcSeed s.crcSeed
  let _ ← written .crcCheck s.crcCheck
  let length ← written .crcLength s.crcLength
  .ok { sar, dar, ctl, block, length }

/-- The source range `[s, s+4n)` meets the register window (R131). -/
def meetsWindow (p : Params) (o : StartOperands) : Bool :=
  decide (o.sar.toNat < p.blockBase.toNat + Config.windowSize)
    && decide (p.blockBase.toNat < o.sar.toNat + 4 * o.block.toNat)

/-- R131's F_DESC and F_LENGTH checks, in order. -/
def descriptorCheck (p : Params) (o : StartOperands) : Option Cause :=
  if o.ctl.width ≠ 2 then some ⟨.desc, .value (o.ctl.width.setWidth 32)⟩
  else if o.ctl.tt ≠ 0 then some ⟨.desc, .value (o.ctl.tt.setWidth 32)⟩
  else if o.block = 0 ∨ p.maxBlockSize < o.block.toNat then
    some ⟨.desc, .value (o.block.setWidth 32)⟩
  else if o.dar ≠ Params.crcIrAddr p then some ⟨.desc, .value o.dar⟩
  else if o.sar.extractLsb' 0 2 ≠ 0 then some ⟨.desc, .value o.sar⟩
  else if 2 ^ 32 < o.sar.toNat + 4 * o.block.toNat then some ⟨.desc, .value o.sar⟩
  else if meetsWindow p o then some ⟨.desc, .value o.sar⟩
  else if o.block.setWidth 32 ≠ o.length then some ⟨.length, .lengths o.block o.length⟩
  else none

/-- R131 from GO = 1 on: restart, unwritten and descriptor checks, then BUSY. -/
def startTransfer (s : State) : Except Cause State :=
  if s.dmaState ≠ .idle then .error ⟨.restart, .dmaState s.dmaState⟩
  else do
    let o ← startOperands s
    match descriptorCheck s.params o with
    | some c => .error c
    | none => .ok (State.advance { s with dmaState := .busy, curSrc := o.sar, rem := o.block })

/-- WR DMA_START: GO = 0 has no effect but the advance (R131). -/
def execWrDmaStart (data : Word) (s : State) : Host.Outcome State Fault Refusal :=
  .next (hostWrite .dmaStart data s fun t =>
    if data.getLsbD 0 then t.settle .host (startTransfer t) else t.advance)

/-- RD DMA_STS (R132). -/
def execRdDmaSts (s : State) : Host.Outcome State Fault Refusal :=
  .next (s.completeRead .dmaSts s.dmaStsWord)

/-- WR DMA_EVTCLR by HOST: refused with F_WRITER by the writer check (R133). -/
def execWrDmaEvtclr (data : Word) (s : State) : Host.Outcome State Fault Refusal :=
  .next (hostWrite .dmaEvtclr data s fun t => t)

/-- RD DMA_REM (R134). -/
def execRdDmaRem (s : State) : Host.Outcome State Fault Refusal :=
  .next (s.completeRead .dmaRem (s.rem.setWidth 32))

/-- The end of a word step: at the last word DONE, and the completion event if INT_EN = 1 (R135, R136). -/
def finishWord (s : State) : Except Cause State :=
  if s.rem = 0 then do
    let ctl ← written .dmaCtl s.dmaCtl
    .ok { s with dmaState := .done, evtRaw := s.evtRaw || ctl.intEn }
  else .ok s

/-- `DmaStep` up to its fault: read, fold, count (R135). -/
def dmaWord (s : State) : Except Cause State :=
  match s.mem.readWord s.curSrc with
  | none => .error ⟨.mem, .address s.curSrc⟩
  | some w => do
    let t ← crcFold w s
    finishWord { t with curSrc := t.curSrc + 4, rem := t.rem - 1 }

/-- The DMA word step (R135). -/
def dmaStep (s : State) : State := s.settle .dma (dmaWord s)

end Sys2Proof.Machine
end

