-- ==== Sys2Proof/Machine/Indicator.lean ====
section
/-! DEFINITION. The indicator state machine and the ticker (spec/43_indicator.md). -/

namespace Sys2Proof.Machine

/-- RD IND_STS (R184). -/
def execRdIndSts (s : State) : Host.Outcome State Fault Refusal :=
  .next (s.completeRead .indSts s.indStsWord)

/-- RD IND_TCNT (R181). -/
def execRdIndTcnt (s : State) : Host.Outcome State Fault Refusal :=
  .next (s.completeRead .indTcnt s.tickCnt)

/-- WR IND_THR: 0 is F_THRESHOLD (R182). -/
def execWrIndThr (data : Word) (s : State) : Host.Outcome State Fault Refusal :=
  .next (hostWrite .indThr data s fun t =>
    if data = 0 then t.raise .host ⟨.threshold, .offset Reg.indThr.offset⟩
    else State.advance { t with indThr := data })

/-- RD IND_THR (R183). -/
def execRdIndThr (s : State) : Host.Outcome State Fault Refusal :=
  .next (s.completeRead .indThr s.indThr)

/-- IND_SEE: WAITING to CHECKING, and nothing else (R170). -/
def indSee (s : State) : State := { s with indState := .checking }

/-- IND_CHECK: the one read of the mismatch result (R172). -/
def indCheck (s : State) : State :=
  if s.resValid then
    if s.resMismatch then { s with indState := .mismatchBlink, tickCnt := 0 }
    else { s with indState := .verified, out := true }
  else s.raise .ind ⟨.undefResult, .countBit s.count s.autochk⟩

/-- IND's step; it has none in a terminal state (R173, R174). -/
def indStep (s : State) : State :=
  match s.indState with
  | .waiting => indSee s
  | .checking => indCheck s
  | .verified => s
  | .mismatchBlink => s

/-- `TickStep` (R176). -/
def tickStep (s : State) : State :=
  if s.tickCnt + 1 = s.indThr then { s with tickCnt := 0, out := !s.out }
  else { s with tickCnt := s.tickCnt + 1 }

/-- The time of one half-period of the blink, `THR * TICK_UNIT` in microseconds (R185). No step reads it. -/
def State.toggleTime (s : State) : Nat := s.indThr.toNat * s.params.tickUnit

/-- The blink's period, `2 * THR * TICK_UNIT` in microseconds (R185). No step reads it. -/
def State.blinkPeriod (s : State) : Nat := 2 * s.toggleTime

end Sys2Proof.Machine
end

