-- ==== Sys2Proof/Machine/Sync.lean ====
section
/-! DEFINITION. The completion handler and the flag synchronizer (spec/42_sync.md). -/

namespace Sys2Proof.Machine

/-- WR SYNC_SET by HOST: refused with F_WRITER by the writer check (R154). -/
def execWrSyncSet (data : Word) (s : State) : Host.Outcome State Fault Refusal :=
  .next (hostWrite .syncSet data s fun t => t)

/-- RD SYNC_STS: F_ORDER before DMA_START (R157). -/
def execRdSyncSts (s : State) : Host.Outcome State Fault Refusal :=
  .next (if s.dmaState = .idle then s.raise .host ⟨.order, .offset Reg.syncSts.offset⟩
    else s.completeRead .syncSts (zextBit s.sync2))

/-- `WAITFLAG`: F_ORDER before DMA_START; it passes once the visible flag is 1, and holds otherwise,
where HOST has no step (R158). -/
def waitflagStep (s : State) : State :=
  if s.dmaState = .idle then s.raise .host ⟨.order, .waitflag⟩
  else if s.sync2 then s.advance
  else s

/-- `HandlerStep`: taking the completion interrupt, entry and return in one step (R151;
60_exceptions.md R208, R209). -/
def handlerStep (s : State) : State :=
  { s with evtRaw := false, flagSrc := true, handlerCount := s.handlerCount + 1 }

/-- `SyncStep`: both stages shift at once (R155). -/
def syncStep (s : State) : State := { s with sync2 := s.sync1, sync1 := s.flagSrc }

end Sys2Proof.Machine
end

