-- ==== Sys2Proof/Machine/Dispatch.lean ====
section
/-! DEFINITION. HOST's dispatch: one arm per constructor of `Instr` (spec/30_encoding.md R74). -/

namespace Sys2Proof.Machine

def exec (i : Instr) (s : State) : Host.Outcome State Fault Refusal :=
  match i with
  | .wrCrcCfg data => Sys2Proof.Machine.execWrCrcCfg data s
  | .rdCrcCfg => Sys2Proof.Machine.execRdCrcCfg s
  | .wrCrcSeed data => Sys2Proof.Machine.execWrCrcSeed data s
  | .rdCrcSeed => Sys2Proof.Machine.execRdCrcSeed s
  | .wrCrcCheck data => Sys2Proof.Machine.execWrCrcCheck data s
  | .rdCrcCheck => Sys2Proof.Machine.execRdCrcCheck s
  | .wrCrcLength data => Sys2Proof.Machine.execWrCrcLength data s
  | .rdCrcLength => Sys2Proof.Machine.execRdCrcLength s
  | .wrCrcCtrl data => Sys2Proof.Machine.execWrCrcCtrl data s
  | .rdCrcCtrl => Sys2Proof.Machine.execRdCrcCtrl s
  | .wrCrcIr data => Sys2Proof.Machine.execWrCrcIr data s
  | .rdCrcSts => Sys2Proof.Machine.execRdCrcSts s
  | .rdCrcRes => Sys2Proof.Machine.execRdCrcRes s
  | .rdCrcCnt => Sys2Proof.Machine.execRdCrcCnt s
  | .wrDmaSar data => Sys2Proof.Machine.execWrDmaSar data s
  | .rdDmaSar => Sys2Proof.Machine.execRdDmaSar s
  | .wrDmaDar data => Sys2Proof.Machine.execWrDmaDar data s
  | .rdDmaDar => Sys2Proof.Machine.execRdDmaDar s
  | .wrDmaCtl data => Sys2Proof.Machine.execWrDmaCtl data s
  | .rdDmaCtl => Sys2Proof.Machine.execRdDmaCtl s
  | .wrDmaBlock data => Sys2Proof.Machine.execWrDmaBlock data s
  | .rdDmaBlock => Sys2Proof.Machine.execRdDmaBlock s
  | .wrDmaEvten data => Sys2Proof.Machine.execWrDmaEvten data s
  | .rdDmaEvten => Sys2Proof.Machine.execRdDmaEvten s
  | .wrDmaStart data => Sys2Proof.Machine.execWrDmaStart data s
  | .rdDmaSts => Sys2Proof.Machine.execRdDmaSts s
  | .wrDmaEvtclr data => Sys2Proof.Machine.execWrDmaEvtclr data s
  | .rdDmaRem => Sys2Proof.Machine.execRdDmaRem s
  | .wrSyncSet data => Sys2Proof.Machine.execWrSyncSet data s
  | .rdSyncSts => Sys2Proof.Machine.execRdSyncSts s
  | .rdIndSts => Sys2Proof.Machine.execRdIndSts s
  | .rdIndTcnt => Sys2Proof.Machine.execRdIndTcnt s
  | .wrIndThr data => Sys2Proof.Machine.execWrIndThr data s
  | .rdIndThr => Sys2Proof.Machine.execRdIndThr s

end Sys2Proof.Machine
end

