-- ==== Sys2Proof/Machine/Agents.lean ====
section
/-! DEFINITION. The six agents: when each is enabled, which one moves next, and its step
(spec/00_scope.md R8; 30_encoding.md R75; 60_exceptions.md R204). -/

namespace Sys2Proof.Machine

/-- The element of `HostProg` that HOST performs next (10_state.md R21). -/
def State.nextOp (s : State) : Option HostOp := s.hostProg[s.hpc]?

/-- HOST has a step: there is an element left, and it does not hold (30_encoding.md R75; 42_sync.md R158). -/
def State.hostReady (s : State) : Bool :=
  match s.nextOp with
  | none => false
  | some .waitflag => s.dmaState == .idle || s.sync2
  | some (.wr _ _) => true
  | some (.rd _) => true

/-- IND has a step: WAITING with the flag visible, or CHECKING (43_indicator.md R170, R172). -/
def State.indReady (s : State) : Bool :=
  match s.indState with
  | .waiting => s.sync2
  | .checking => true
  | .verified => false
  | .mismatchBlink => false

/-- The enabling condition of an agent; each includes `st.fault = none` (60_exceptions.md R201). -/
def State.enabled (s : State) (a : Agent) : Bool :=
  s.fault.isNone &&
    match a with
    | .host => s.hostReady
    | .dma => s.dmaState == .busy
    | .handler => s.irq
    | .sync => s.sync1 != s.flagSrc || s.sync2 != s.sync1
    | .ind => s.indReady
    | .tick => s.armed

/-- The six agents (00_scope.md R8). -/
def Agent.all : List Agent := [.host, .dma, .handler, .sync, .ind, .tick]

/-- The agents with an enabled step. -/
def State.enabledAgents (s : State) : List Agent := Agent.all.filter s.enabled

/-- One of several agents, by the free value of this turn (log entry 5). -/
def freeChoice (turn : Nat) (as : List Agent) : Option Agent :=
  as[Config.arbiter turn % as.length]?

/-- Which agent moves next: any enabled one may (60_exceptions.md R204). The only one enabled, or else
the head of the schedule if it is enabled, or else a free choice (log entries 5 and 20). -/
def State.chooseAgent (s : State) : Option Agent :=
  match s.enabledAgents with
  | [] => none
  | [a] => some a
  | a :: b :: as =>
    match s.sched with
    | [] => freeChoice s.turn (a :: b :: as)
    | c :: _ => if s.enabled c then some c else freeChoice s.turn (a :: b :: as)

/-- A step takes one entry of the schedule and one turn (log entries 5 and 6). -/
def State.nextTurn (s : State) : State := { s with sched := s.sched.tail, turn := s.turn + 1 }

/-- One op word of HOST: decode (30_encoding.md R72), then perform (R74). -/
def hostAccess (o : OpWord) (data : Word) (s : State) : Host.Outcome State Fault Refusal :=
  match decode o data with
  | .ok i => exec i s
  | .error _ => .next (s.raise .host ⟨.access, .opWord o⟩)

/-- HOST's step (30_encoding.md R75). -/
def hostStep (s : State) : Host.Outcome State Fault Refusal :=
  match s.nextOp with
  | none => .next s
  | some .waitflag => .next (waitflagStep s)
  | some (.wr addr data) => hostAccess (1#1 ++ addr) data s
  | some (.rd addr) => hostAccess (0#1 ++ addr) 0 s

/-- The step of an agent (00_scope.md R8). -/
def agentStep (a : Agent) (s : State) : Host.Outcome State Fault Refusal :=
  match a with
  | .host => hostStep s
  | .dma => .next (dmaStep s)
  | .handler => .next (handlerStep s)
  | .sync => .next (syncStep s)
  | .ind => .next (indStep s)
  | .tick => .next (tickStep s)

/-- One step of the machine: a faulted one has none (60_exceptions.md R201); where no agent is enabled
it stays as it is (log entry 7); else the chosen agent moves. -/
def machineStep (s : State) : Host.Outcome State Fault Refusal :=
  match s.fault with
  | some r => .fault (.halted r)
  | none =>
    match s.chooseAgent with
    | none => .next s
    | some a => agentStep a s.nextTurn

/-- `s` with `op` as the element HOST performs next and HOST as the agent to move: not faulted, the
program padded up to `hpc` with elements no step reaches (log entry 22). -/
def State.placeOp (s : State) (op : HostOp) : State :=
  { s with
    hostProg := s.hostProg.take s.hpc ++ List.replicate (s.hpc - s.hostProg.length) .waitflag
      ++ op :: s.hostProg.drop (s.hpc + 1)
    sched := .host :: s.sched
    fault := none }

end Sys2Proof.Machine
end

