-- ==== Sys2Proof/Machine/Step.lean ====
section
/-! DEFINITION. The step of the machine, and placing one instruction where HOST takes its next operation. -/

namespace Sys2Proof.Machine

/-- One atomic step of one agent (spec/00_scope.md R8). -/
def step (s : State) : Host.Outcome State Fault Refusal := machineStep s

/-- `s` with the instruction of `spec/opcode_table.json`'s word `w` (op word in bits [15:0], data word in
bits [47:16], nothing above `nbits`) as HOST's next operation (log entries 10 and 22). -/
def State.withFetchWord (s : State) (nbits w : Nat) : State :=
  s.placeOp (HostOp.ofWords (BitVec.ofNat 16 (w % 2 ^ nbits)) (BitVec.ofNat 32 (w % 2 ^ nbits / 2 ^ 16)))

end Sys2Proof.Machine
end

