-- ==== Sys2Proof/Safety.lean ====
section
/-! DEFINITION. The terms claims are stated in: the ends of a run (spec/60_exceptions.md R213, R219), the
CRC of the source block (41_dma.md R137), runs and weak fairness (60_exceptions.md R221), and the
invariant that every step keeps. -/

namespace Sys2Proof.Machine

/-- HOST has finished: `st.hpc = length(HostProg)` (30_encoding.md R75). -/
def State.hostDone (s : State) : Bool := s.hpc == s.hostProg.length

/-- What final VERIFIED and settled MISMATCH have in common (60_exceptions.md R219). -/
def State.settledIn (s : State) (i : IndState) : Bool :=
  s.fault.isNone && s.indState == i && s.hostDone && s.dmaState == .done && !s.evtRaw
    && s.sync1 && s.sync2 && s.flagSrc

/-- Final VERIFIED (60_exceptions.md R219). -/
def State.finalVerified (s : State) : Bool := s.settledIn .verified

/-- Settled MISMATCH (60_exceptions.md R219). -/
def State.settledMismatch (s : State) : Bool := s.settledIn .mismatchBlink

/-- A hang: no fault, no agent with a step, and no end of a run (60_exceptions.md R213, R219). -/
def State.hung (s : State) : Bool :=
  s.fault.isNone && s.enabledAgents.isEmpty && !s.finalVerified

/-- Word `k` of the source block at `sar`: `MemRead(SAR + 4k, 4)` (41_dma.md R137). -/
def blockWord (m : Memory) (sar : Word) (k : Nat) : Option Word :=
  m.readWord (sar + 4 * BitVec.ofNat 32 k)

/-- The running CRC, from a seed, of the first `n` words of the block at `sar`; nothing where a byte of
them is not admitted (40_crc.md R105 to R107; 41_dma.md R137). -/
def crcOfBlock (g : Granularity) (cfg : CrcCfg) (m : Memory) (sar seed : Word) : Nat → Option Word
  | 0 => some seed
  | n + 1 =>
    match crcOfBlock g cfg m sar seed n, blockWord m sar n with
    | some c, some w => some (crc32Step c (din g cfg w))
    | _, _ => none

/-- The running CRC of the first `n` words of the programmed block, from the programmed seed. -/
def State.blockCrc (s : State) (n : Nat) : Option Word :=
  match n, s.crcSeed, s.crcCfg, s.dmaSar with
  | 0, seed, _, _ => seed
  | n + 1, some seed, some cfg, some sar =>
    crcOfBlock s.params.refinGranularity cfg s.mem sar seed (n + 1)
  | _ + 1, _, _, _ => none

/-- Whether a running CRC's final value differs from CRC_CHECK (40_crc.md R106, R108). -/
def State.mismatchOf (s : State) (crc : Option Word) : Option Bool :=
  crc.bind fun c => s.crcCfg.bind fun cfg => s.crcCheck.map fun check => crcFinal cfg c != check

/-- BLOCK as a number, where it is written. -/
def State.blockSize (s : State) : Option Nat := s.dmaBlock.map BitVec.toNat

/-- The registers pass DMA_START's unwritten and descriptor checks (41_dma.md R131). -/
def State.accepted (s : State) : Bool :=
  match startOperands s with
  | .ok o => (descriptorCheck s.params o).isNone
  | .error _ => false

/-- A run without end: each state is the step of the one before. -/
def IsRun (run : Nat → State) : Prop := ∀ n, step (run n) = .next (run (n + 1))

/-- Weak fairness: an agent that stays enabled eventually takes a step (60_exceptions.md R221). -/
def WeaklyFair (run : Nat → State) : Prop :=
  ∀ (a : Agent) (n : Nat), (∀ m, n ≤ m → (run m).enabled a = true) →
    ∃ m, n ≤ m ∧ (run m).chooseAgent = some a

/-- The parameters and the launch memory are in their canonical form (00_scope.md R9; 20_memory.md R58). -/
abbrev State.ParamInv (s : State) : Prop := s.params.wf = true ∧ s.mem.wf = true

/-- HOST's index is inside its program, and the log's indices lie before it (10_state.md R21; 30_encoding.md R77). -/
abbrev State.HostInv (s : State) : Prop :=
  s.hpc ≤ s.hostProg.length ∧ ∀ e ∈ s.hostlog, e.index < s.hpc

/-- The completion flag: ordered stages, at most one handler step, the event only after the last word
(42_sync.md R152, R156; 41_dma.md R136). -/
abbrev State.FlagInv (s : State) : Prop :=
  (s.sync2 = true → s.sync1 = true) ∧ (s.sync1 = true → s.flagSrc = true)
    ∧ s.handlerCount = s.flagSrc.toNat
    ∧ (s.evtRaw = true → s.dmaState = .done ∧ s.flagSrc = false)
    ∧ (s.flagSrc = true → s.dmaState = .done ∧ s.evtEn = true)

/-- The engine's progress: nothing moved while IDLE, an accepted descriptor after it, and the words folded
and the words left adding up to the block (41_dma.md R131, R135). -/
abbrev State.DmaInv (s : State) : Prop :=
  (s.dmaState = .idle → s.rem = 0 ∧ s.count = 0 ∧ s.curSrc = 0)
    ∧ (s.dmaState ≠ .idle → s.accepted = true
      ∧ s.blockSize = some (s.count.toNat + s.rem.toNat)
      ∧ s.dmaSar.map (· + 4 * s.count) = some s.curSrc)
    ∧ (s.dmaState = .busy → s.rem ≠ 0) ∧ (s.dmaState = .done → s.rem = 0)

/-- The running CRC is that of the words folded so far, it is written from DMA_START on, and the result is
latched at the last word if AUTOCHK is armed (40_crc.md R106, R109; 41_dma.md R131). -/
abbrev State.CrcInv (s : State) : Prop :=
  s.crcState = s.blockCrc s.count.toNat
    ∧ s.resValid = (s.dmaState == .done && s.autochk)
    ∧ (s.resValid = true → s.mismatchOf s.crcState = some s.resMismatch)
    ∧ (s.resMismatch = true → s.resValid = true)
    ∧ (s.dmaState ≠ .idle → s.crcState ≠ none)

/-- The indicator: it leaves WAITING only on the visible flag, its output is that of its state, and the
tick count stays below the threshold (43_indicator.md R172, R173, R178, R179, R182). -/
abbrev State.IndInv (s : State) : Prop :=
  s.indThr ≠ 0
    ∧ (s.indState ≠ .waiting → s.sync2 = true)
    ∧ (s.indState = .waiting ∨ s.indState = .checking → s.out = false)
    ∧ (s.indState = .verified → s.out = true ∧ s.resValid = true ∧ s.resMismatch = false)
    ∧ (s.indState = .mismatchBlink → s.resValid = true ∧ s.resMismatch = true ∧ s.tickCnt < s.indThr)
    ∧ (s.indState ≠ .mismatchBlink → s.tickCnt = 0)

/-- The machine's invariant. -/
abbrev State.Inv (s : State) : Prop :=
  s.ParamInv ∧ s.HostInv ∧ s.FlagInv ∧ s.DmaInv ∧ s.CrcInv ∧ s.IndInv

end Sys2Proof.Machine
end

