-- ==== Sys2Proof/Certificates/Slice0/Obligations.lean ====
section
/-! DEFINITION. The statements for the provers, from the numbered rules of spec/. The expected values are
written out from the rules, not through the meanings' own helpers. -/

namespace Sys2Proof.Expected

open Sys2Proof.Machine

/-- `s` with a fault of HOST recorded and nothing else changed (60_exceptions.md R201, R202). -/
def hostFault (s : State) (code : FaultCode) (info : FaultInfo) : State :=
  { s with fault := some ⟨code, .host, s.hpc, info⟩ }

/-- `s` after a completed write that also did what `s` already holds (30_encoding.md R76). -/
def done (s : State) : State := { s with hpc := s.hpc + 1 }

/-- `s` after a completed read of `v` at `off` (30_encoding.md R76, R77). -/
def readDone (s : State) (off : Offset) (v : Word) : State :=
  { s with hpc := s.hpc + 1, hostlog := s.hostlog ++ [⟨s.hpc, off, v⟩] }

/-- The whole table of legal op words, each with the operation it names (30_encoding.md R80). -/
def opTable (d : Word) : List (OpWord × Instr) :=
  [(0x8000, .wrCrcCfg d), (0x8004, .wrCrcSeed d), (0x8008, .wrCrcCheck d), (0x800C, .wrCrcLength d),
    (0x8010, .wrCrcCtrl d), (0x8014, .wrCrcIr d), (0x8100, .wrDmaSar d), (0x8104, .wrDmaDar d)]
  ++ [(0x8108, .wrDmaCtl d), (0x810C, .wrDmaBlock d), (0x8110, .wrDmaEvten d), (0x8114, .wrDmaStart d),
    (0x811C, .wrDmaEvtclr d), (0x8200, .wrSyncSet d), (0x8308, .wrIndThr d)]
  ++ [(0x0000, .rdCrcCfg), (0x0004, .rdCrcSeed), (0x0008, .rdCrcCheck), (0x000C, .rdCrcLength),
    (0x0010, .rdCrcCtrl), (0x0018, .rdCrcSts), (0x001C, .rdCrcRes), (0x0020, .rdCrcCnt),
    (0x0100, .rdDmaSar), (0x0104, .rdDmaDar)]
  ++ [(0x0108, .rdDmaCtl), (0x010C, .rdDmaBlock), (0x0110, .rdDmaEvten), (0x0118, .rdDmaSts),
    (0x0120, .rdDmaRem), (0x0204, .rdSyncSts), (0x0300, .rdIndSts), (0x0304, .rdIndTcnt),
    (0x0308, .rdIndThr)]

/-- Reading an instruction does not write a register (30_encoding.md R71: bit 15 is 0). -/
def isRead (i : Instr) : Prop := i.dataWord = none

/-- The first of DMA_START's eight registers, in R131's order, that is unwritten (41_dma.md R131). -/
def firstUnwritten (s : State) : Option Reg :=
  if s.dmaSar = none then some .dmaSar
  else if s.dmaDar = none then some .dmaDar
  else if s.dmaCtl = none then some .dmaCtl
  else if s.dmaBlock = none then some .dmaBlock
  else if s.crcCfg = none then some .crcCfg
  else if s.crcSeed = none then some .crcSeed
  else if s.crcCheck = none then some .crcCheck
  else if s.crcLength = none then some .crcLength
  else none

/-- R131's F_DESC and F_LENGTH checks on written registers, in its order; `done` of a BUSY engine where
all pass. -/
def startOn (s : State) (sar dar : Word) (ctl : DmaCtl) (n : BitVec 16) (len : Word) : State :=
  if ctl.width ≠ 2 then hostFault s .desc (.value (ctl.width.setWidth 32))
  else if ctl.tt ≠ 0 then hostFault s .desc (.value (ctl.tt.setWidth 32))
  else if n.toNat = 0 ∨ s.params.maxBlockSize < n.toNat then hostFault s .desc (.value (n.setWidth 32))
  else if dar ≠ s.params.blockBase + 0x014 then hostFault s .desc (.value dar)
  else if sar.toNat % 4 ≠ 0 then hostFault s .desc (.value sar)
  else if 2 ^ 32 < sar.toNat + 4 * n.toNat then hostFault s .desc (.value sar)
  else if sar.toNat < s.params.blockBase.toNat + 0x400
      ∧ s.params.blockBase.toNat < sar.toNat + 4 * n.toNat then hostFault s .desc (.value sar)
  else if n.toNat ≠ len.toNat then hostFault s .length (.lengths n len)
  else done { s with dmaState := .busy, curSrc := sar, rem := n }

/-- R107's loop body. -/
def shiftPoly (r : Word) : Word := if r.getLsbD 31 then (r <<< 1) ^^^ 0x04C11DB7 else r <<< 1

/-- The word's bytes in little-endian order. -/
def leBytes (w : Word) : List Byte :=
  [w.extractLsb' 0 8, w.extractLsb' 8 8, w.extractLsb' 16 8, w.extractLsb' 24 8]

/-- The word's bytes in big-endian order. -/
def beBytes (w : Word) : List Byte := (leBytes w).reverse

/-- The byte step of the standard reflected CRC-32 (CRC-32/ISO-HDLC, general knowledge, log entry 15). -/
def reflectedByte (c : Word) (b : Byte) : Word :=
  (fun r : Word => if r.getLsbD 0 then (r >>> 1) ^^^ 0xEDB88320 else r >>> 1)^[8] (c ^^^ b.setWidth 32)

/-- The byte step of the standard unreflected CRC-32 (CRC-32/MPEG-2 and BZIP2, general knowledge). -/
def straightByte (c : Word) (b : Byte) : Word :=
  shiftPoly^[8] (c ^^^ (b.setWidth 32 <<< 24))

/-- The running CRC of a list of words from seed 0xFFFFFFFF (40_crc.md R105 to R107). -/
def foldWords (g : Granularity) (cfg : CrcCfg) (ws : List Word) : Word :=
  ws.foldl (fun c w => crc32Step c (din g cfg w)) 0xFFFFFFFF

/-- The info column of R200: which kind of info goes with which code. -/
def infoFits : FaultCode → FaultInfo → Bool
  | .access, .opWord _ => true
  | .reserved, .offsetData _ _ => true
  | .locked, .offset _ => true
  | .writer, .offset _ => true
  | .unwritten, .offset _ => true
  | .unwritten, .register _ => true
  | .desc, .value _ => true
  | .length, .lengths _ _ => true
  | .restart, .dmaState _ => true
  | .mem, .address _ => true
  | .undefResult, .countBit _ _ => true
  | .overrun, .count _ => true
  | .threshold, .offset _ => true
  | .order, .offset _ => true
  | .order, .waitflag => true
  | _, _ => false

end Sys2Proof.Expected

open Sys2Proof Sys2Proof.Machine Sys2Proof.Expected

/-! ## Encoding -/

/-- R80: exactly the 34 op words decode, each to its operation, and every other raises F_ACCESS; the writes
0x8014, 0x811C and 0x8200 decode and then raise F_WRITER in every state. -/
def Obligations.LegalOpWords : Prop :=
  (∀ (o : OpWord) (d : Word) (i : Instr), decode o d = .ok i ↔ (o, i) ∈ opTable d)
  ∧ (∀ (o : OpWord) (d : Word) (s : State), o ∉ (opTable d).map Prod.fst →
      hostAccess o d s = .next (hostFault s .access (.opWord o)))
  ∧ (∀ (d : Word) (s : State),
      hostAccess 0x8014 d s = .next (hostFault s .writer (.offset 0x014))
      ∧ hostAccess 0x811C d s = .next (hostFault s .writer (.offset 0x11C))
      ∧ hostAccess 0x8200 d s = .next (hostFault s .writer (.offset 0x200)))

/-- Decode and encode agree, both ways: every instruction is what its op word and data word decode to, and
an op word that decodes is the op word of what it decodes to, with the data word kept (R71, R80, R82). -/
def Obligations.EncodeDecodeAgree : Prop :=
  (∀ i : Instr, decode i.opWord (i.dataWord.getD 0) = .ok i
    ∧ decodeTableWord 48 (i.opWord.toNat + 2 ^ 16 * (i.dataWord.getD 0).toNat) = some i
    ∧ (encode i).opWord = some i.opWord)
  ∧ ∀ (o : OpWord) (d : Word) (i : Instr), decode o d = .ok i →
      i.opWord = o ∧ i.dataWord = if o.getLsbD 15 then some d else none

/-- Words written out from R71's fields and R80's list decode to what they stand for, and six words that
95_test_vectors.md section 6 gives as F_ACCESS are rejected. The reject names are the model's own (log
entry 19): each is F_ACCESS with the op word, and 0x0400, there `OFF_HI != 0`, has the name `unmapped`, since
no register of R27 lies at an offset with `OFF_HI != 0`. -/
def Obligations.SampleWordsDecode : Prop :=
  decode (1#1 ++ 0#3 ++ 0#2 ++ 0x000#10) 5 = .ok (.wrCrcCfg 5)
  ∧ decode (0#1 ++ 0#3 ++ 0#2 ++ 0x018#10) 0 = .ok .rdCrcSts
  ∧ decode (1#1 ++ 0#3 ++ 0#2 ++ 0x114#10) 1 = .ok (.wrDmaStart 1)
  ∧ decode (0#1 ++ 0#3 ++ 0#2 ++ 0x204#10) 0 = .ok .rdSyncSts
  ∧ decode (1#1 ++ 0#3 ++ 0#2 ++ 0x308#10) 3 = .ok (.wrIndThr 3)
  ∧ decode 0x0014 0 = .error .readOfWriteOnly ∧ decode 0x8018 0 = .error .writeOfReadOnly
  ∧ decode 0x0002 0 = .error .misaligned ∧ decode 0x1000 0 = .error .reservedZ
  ∧ decode 0x0400 0 = .error .unmapped ∧ decode 0x0124 0 = .error .unmapped

/-! ## The machine's step -/

/-- A step runs the decoded instruction: where HOST is the agent to move and the element at `hpc` holds
words that decode to `i`, the step is `exec i` of the state whose schedule entry and turn are used (the
model's own fields, log entries 5 and 6), whatever agent bookkeeping stands around it (R74, R75). -/
def Obligations.StepRunsDecodedInstruction : Prop :=
  ∀ (s : State) (o : OpWord) (d : Word) (i : Instr),
    s.fault = none → s.chooseAgent = some .host →
    s.hostProg[s.hpc]? = some (HostOp.ofWords o d) → decode o d = .ok i →
    step s = exec i { s with sched := s.sched.tail, turn := s.turn + 1 }

/-- R158: WAITFLAG raises F_ORDER before DMA_START, holds (HOST has no step) while the visible flag is 0,
and advances once it is 1. -/
def Obligations.WaitflagFollowsR158 : Prop :=
  ∀ s : State, s.fault = none → s.hostProg[s.hpc]? = some .waitflag →
    (s.dmaState = .idle → s.enabled .host = true ∧ hostStep s = .next (hostFault s .order .waitflag))
    ∧ (s.dmaState ≠ .idle → s.sync2 = false → s.enabled .host = false)
    ∧ (s.dmaState ≠ .idle → s.sync2 = true → s.enabled .host = true ∧ hostStep s = .next (done s))

/-- R230: the reset value of every piece of state, and what each host read gives just after reset. -/
def Obligations.ResetState : Prop :=
  let s := State.reset
  (s.crcCfg = none ∧ s.crcSeed = none ∧ s.crcCheck = none ∧ s.crcLength = none ∧ s.autochk = false
    ∧ s.dmaSar = none ∧ s.dmaDar = none ∧ s.dmaCtl = none ∧ s.dmaBlock = none ∧ s.evtEn = false
    ∧ s.indThr = 500)
  ∧ (s.crcState = none ∧ s.count = 0 ∧ s.resValid = false ∧ s.resMismatch = false
    ∧ s.dmaState = .idle ∧ s.curSrc = 0 ∧ s.rem = 0 ∧ s.evtRaw = false ∧ s.flagSrc = false
    ∧ s.sync1 = false ∧ s.sync2 = false ∧ s.handlerCount = 0 ∧ s.indState = .waiting
    ∧ s.out = false ∧ s.tickCnt = 0 ∧ s.hpc = 0 ∧ s.hostlog = [] ∧ s.fault = none ∧ s.irq = false)
  ∧ (exec .rdCrcCtrl s = .next (readDone s 0x010 0) ∧ exec .rdCrcCnt s = .next (readDone s 0x020 0)
    ∧ exec .rdDmaEvten s = .next (readDone s 0x110 0) ∧ exec .rdDmaSts s = .next (readDone s 0x118 0)
    ∧ exec .rdDmaRem s = .next (readDone s 0x120 0) ∧ exec .rdIndSts s = .next (readDone s 0x300 0)
    ∧ exec .rdIndTcnt s = .next (readDone s 0x304 0)
    ∧ exec .rdIndThr s = .next (readDone s 0x308 0x000001F4))
  ∧ (exec .rdCrcCfg s = .next (hostFault s .unwritten (.offset 0x000))
    ∧ exec .rdCrcSeed s = .next (hostFault s .unwritten (.offset 0x004))
    ∧ exec .rdCrcCheck s = .next (hostFault s .unwritten (.offset 0x008))
    ∧ exec .rdCrcLength s = .next (hostFault s .unwritten (.offset 0x00C))
    ∧ exec .rdDmaSar s = .next (hostFault s .unwritten (.offset 0x100))
    ∧ exec .rdDmaDar s = .next (hostFault s .unwritten (.offset 0x104))
    ∧ exec .rdDmaCtl s = .next (hostFault s .unwritten (.offset 0x108))
    ∧ exec .rdDmaBlock s = .next (hostFault s .unwritten (.offset 0x10C))
    ∧ exec .rdCrcRes s = .next (hostFault s .unwritten (.offset 0x01C))
    ∧ exec .rdCrcSts s = .next (hostFault s .undefResult (.countBit 0 false))
    ∧ exec .rdSyncSts s = .next (hostFault s .order (.offset 0x204)))

/-- R231: from reset, under any parameters, memory, schedule and host program, HOST begins at index 0 and is
the only agent with a step if the program is not empty; with an empty one no agent has a step and the
run is a hang. -/
def Obligations.ResetEntryPoint : Prop :=
  ∀ (p : Params) (m : Memory) (prog : List HostOp) (sched : List Agent) (turn : Nat),
    let s := { State.reset with params := p, mem := m, hostProg := prog, sched := sched, turn := turn }
    s.hpc = 0
    ∧ (prog ≠ [] → ∀ a : Agent, s.enabled a = true ↔ a = .host)
    ∧ (prog = [] → (∀ a : Agent, s.enabled a = false) ∧ s.hung = true)

/-- R204 with log entries 5 and 20: only an enabled agent moves; each enabled agent moves under some
schedule; and while one is enabled, one moves. The schedule is the model's way to say the order. -/
def Obligations.AnyEnabledAgentMayMove : Prop :=
  (∀ (s : State) (a : Agent), s.chooseAgent = some a → s.enabled a = true)
  ∧ (∀ (s : State) (a : Agent) (rest : List Agent), s.enabled a = true →
      { s with sched := a :: rest }.chooseAgent = some a)
  ∧ (∀ (s : State) (a : Agent), s.enabled a = true → ∃ b, s.chooseAgent = some b)

/-- R201: a faulting step writes the record and makes no other change (the schedule entry and the turn, the
model's own, are used); from then on no agent has a step, a step answers the outcome `halted` with the
record (log entry 8), and the state is no end of a run. -/
def Obligations.FaultHaltsMachine : Prop :=
  (∀ (s t : State) (r : FaultRecord), step s = .next t → t.fault = some r →
      t = { s with fault := some r, sched := s.sched.tail, turn := s.turn + 1 })
  ∧ (∀ (s : State) (r : FaultRecord), s.fault = some r →
      (∀ a : Agent, s.enabled a = false) ∧ step s = .fault (.halted r)
      ∧ s.finalVerified = false ∧ s.settledMismatch = false)

/-- R202: the record of a faulting step names the agent that moved, HOST, DMA or IND, holds `hpc` for HOST
and 0 otherwise, and its info is of the kind R200 lists for its code. -/
def Obligations.FaultRecordContents : Prop :=
  ∀ (s t : State) (r : FaultRecord), step s = .next t → t.fault = some r →
    s.chooseAgent = some r.agent ∧ (r.agent = .host ∨ r.agent = .dma ∨ r.agent = .ind)
    ∧ r.hpc = (if r.agent = .host then s.hpc else 0) ∧ infoFits r.code r.info = true

/-- R213: with no event requested, the flag down and IND in WAITING, a machine whose DMA is not BUSY and
whose HOST is finished or holds at WAITFLAG is hung, not faulted and not final, and a step leaves it as it
is (log entry 7). INT_EN = 0 (item a), EN = 0 (item b) and no DMA_START (item c) each lead there. -/
def Obligations.AcceptedHangsStay : Prop :=
  ∀ s : State, s.fault = none → s.dmaState ≠ .busy → (s.evtRaw = false ∨ s.evtEn = false) →
    s.flagSrc = false → s.sync1 = false → s.sync2 = false → s.indState = .waiting →
    (s.hostProg.length ≤ s.hpc ∨ (s.hostProg[s.hpc]? = some .waitflag ∧ s.dmaState = .done)) →
    s.hung = true ∧ step s = .next s

/-- R219: no agent has a step in a final VERIFIED state; from a settled MISMATCH state only TICK has, and its
step leaves a settled MISMATCH state; every other state without a step is a hang or faulted. -/
def Obligations.EndsOfARun : Prop :=
  (∀ s : State, s.fault = none → s.indState = .verified → s.hpc = s.hostProg.length →
      s.dmaState = .done → s.evtRaw = false → s.sync1 = true → s.sync2 = true → s.flagSrc = true →
      s.finalVerified = true ∧ s.enabledAgents = [])
  ∧ (∀ s : State, s.fault = none → s.indState = .mismatchBlink → s.hpc = s.hostProg.length →
      s.dmaState = .done → s.evtRaw = false → s.sync1 = true → s.sync2 = true → s.flagSrc = true →
      s.enabledAgents = [.tick]
      ∧ ∃ t : State, step s = .next t ∧ t.settledMismatch = true)
  ∧ (∀ s : State, s.enabledAgents = [] → s.finalVerified = true ∨ s.fault ≠ none ∨ s.hung = true)

/-! ## The CRC unit's register accesses -/

/-- R91. -/
def Obligations.WrCrcCfg : Prop :=
  ∀ (d : Word) (s : State), decode 0x8000 d = .ok (.wrCrcCfg d)
    ∧ (s.dmaState ≠ .idle → exec (.wrCrcCfg d) s = .next (hostFault s .locked (.offset 0x000)))
    ∧ (s.dmaState = .idle → 8 ≤ d.toNat →
        exec (.wrCrcCfg d) s = .next (hostFault s .reserved (.offsetData 0x000 d)))
    ∧ (s.dmaState = .idle → d.toNat < 8 → exec (.wrCrcCfg d) s = .next
        (done { s with crcCfg := some ⟨d.getLsbD 0, d.getLsbD 1, d.getLsbD 2⟩ }))

/-- R93. -/
def Obligations.WrCrcSeed : Prop :=
  ∀ (d : Word) (s : State), decode 0x8004 d = .ok (.wrCrcSeed d)
    ∧ (s.dmaState ≠ .idle → exec (.wrCrcSeed d) s = .next (hostFault s .locked (.offset 0x004)))
    ∧ (s.dmaState = .idle → exec (.wrCrcSeed d) s = .next
        (done { s with
          crcSeed := some d, crcState := some d, count := 0, resValid := false, resMismatch := false }))

/-- R95 and R97; a length of 0 or above MAX_BLOCK_SIZE makes every DMA_START with GO = 1 fault. -/
def Obligations.WrCrcCheckAndLength : Prop :=
  ∀ (d : Word) (s : State),
    decode 0x8008 d = .ok (.wrCrcCheck d) ∧ decode 0x800C d = .ok (.wrCrcLength d)
    ∧ (s.dmaState ≠ .idle → exec (.wrCrcCheck d) s = .next (hostFault s .locked (.offset 0x008))
        ∧ exec (.wrCrcLength d) s = .next (hostFault s .locked (.offset 0x00C)))
    ∧ (s.dmaState = .idle → exec (.wrCrcCheck d) s = .next (done { s with crcCheck := some d })
        ∧ exec (.wrCrcLength d) s = .next (done { s with crcLength := some d }))
    ∧ (s.crcLength = some d → (d.toNat = 0 ∨ s.params.maxBlockSize < d.toNat) →
        ∀ g : Word, g.getLsbD 0 = true → ∃ code info, exec (.wrDmaStart g) s = .next (hostFault s code info))

/-- R99; with AUTOCHK = 0 a fold latches no result. -/
def Obligations.WrCrcCtrl : Prop :=
  ∀ (d : Word) (s : State), decode 0x8010 d = .ok (.wrCrcCtrl d)
    ∧ (s.dmaState ≠ .idle → exec (.wrCrcCtrl d) s = .next (hostFault s .locked (.offset 0x010)))
    ∧ (s.dmaState = .idle → 2 ≤ d.toNat →
        exec (.wrCrcCtrl d) s = .next (hostFault s .reserved (.offsetData 0x010 d)))
    ∧ (s.dmaState = .idle → d.toNat < 2 →
        exec (.wrCrcCtrl d) s = .next (done { s with autochk := d.getLsbD 0 }))
    ∧ (s.autochk = false → ∀ (w : Word) (t : State), crcFold w s = .ok t →
        t.resValid = s.resValid ∧ t.resMismatch = s.resMismatch)

/-- R101, R133, R154: HOST's writes of CRC_IR, DMA_EVTCLR and SYNC_SET always raise F_WRITER, in every
state and for every data word. -/
def Obligations.WriterRefusals : Prop :=
  ∀ (d : Word) (s : State),
    decode 0x8014 d = .ok (.wrCrcIr d) ∧ decode 0x811C d = .ok (.wrDmaEvtclr d)
    ∧ decode 0x8200 d = .ok (.wrSyncSet d)
    ∧ exec (.wrCrcIr d) s = .next (hostFault s .writer (.offset 0x014))
    ∧ exec (.wrDmaEvtclr d) s = .next (hostFault s .writer (.offset 0x11C))
    ∧ exec (.wrSyncSet d) s = .next (hostFault s .writer (.offset 0x200))

/-- R92, R94, R96, R98: reads of CRC_CFG, CRC_SEED, CRC_CHECK and CRC_LENGTH, unwritten and written, in
every state of the engine. -/
def Obligations.RdCrcConfiguration : Prop :=
  ∀ s : State,
    (s.crcCfg = none → exec .rdCrcCfg s = .next (hostFault s .unwritten (.offset 0x000)))
    ∧ (∀ c, s.crcCfg = some c → exec .rdCrcCfg s = .next
        (readDone s 0x000 (BitVec.ofNat 32 (c.refin.toNat + 2 * c.refout.toNat + 4 * c.xorout.toNat))))
    ∧ (s.crcSeed = none → exec .rdCrcSeed s = .next (hostFault s .unwritten (.offset 0x004)))
    ∧ (∀ w, s.crcSeed = some w → exec .rdCrcSeed s = .next (readDone s 0x004 w))
    ∧ (s.crcCheck = none → exec .rdCrcCheck s = .next (hostFault s .unwritten (.offset 0x008)))
    ∧ (∀ w, s.crcCheck = some w → exec .rdCrcCheck s = .next (readDone s 0x008 w))
    ∧ (s.crcLength = none → exec .rdCrcLength s = .next (hostFault s .unwritten (.offset 0x00C)))
    ∧ (∀ w, s.crcLength = some w → exec .rdCrcLength s = .next (readDone s 0x00C w))

/-- R102: the mismatch status is readable exactly when a result is latched and the flag is visible. -/
def Obligations.RdCrcSts : Prop :=
  ∀ s : State,
    (s.resValid = false ∨ s.sync2 = false →
      exec .rdCrcSts s = .next (hostFault s .undefResult (.countBit s.count s.sync2)))
    ∧ (s.resValid = true → s.sync2 = true →
      exec .rdCrcSts s = .next (readDone s 0x018 (if s.resMismatch then 1 else 0)))

/-- R103: the final CRC of the running state; F_UNWRITTEN before CRC_CFG or CRC_SEED. -/
def Obligations.RdCrcRes : Prop :=
  ∀ s : State,
    (s.crcCfg = none ∨ s.crcState = none →
      exec .rdCrcRes s = .next (hostFault s .unwritten (.offset 0x01C)))
    ∧ (∀ cfg c, s.crcCfg = some cfg → s.crcState = some c → exec .rdCrcRes s = .next
        (readDone s 0x01C ((if cfg.refout then rev32 c else c)
          ^^^ (if cfg.xorout then 0xFFFFFFFF else 0x00000000))))

/-! ## The DMA engine's register accesses -/

/-- R121 and R123. -/
def Obligations.WrDmaSarAndDar : Prop :=
  ∀ (d : Word) (s : State), decode 0x8100 d = .ok (.wrDmaSar d) ∧ decode 0x8104 d = .ok (.wrDmaDar d)
    ∧ (s.dmaState ≠ .idle → exec (.wrDmaSar d) s = .next (hostFault s .locked (.offset 0x100))
        ∧ exec (.wrDmaDar d) s = .next (hostFault s .locked (.offset 0x104)))
    ∧ (s.dmaState = .idle → exec (.wrDmaSar d) s = .next (done { s with dmaSar := some d })
        ∧ exec (.wrDmaDar d) s = .next (done { s with dmaDar := some d }))

/-- R125: the four fields are stored, illegal WIDTH and TT codes too. -/
def Obligations.WrDmaCtl : Prop :=
  ∀ (d : Word) (s : State), decode 0x8108 d = .ok (.wrDmaCtl d)
    ∧ (s.dmaState ≠ .idle → exec (.wrDmaCtl d) s = .next (hostFault s .locked (.offset 0x108)))
    ∧ (s.dmaState = .idle → d &&& 0xFFFFEC88 ≠ 0 →
        exec (.wrDmaCtl d) s = .next (hostFault s .reserved (.offsetData 0x108 d)))
    ∧ (s.dmaState = .idle → d &&& 0xFFFFEC88 = 0 → exec (.wrDmaCtl d) s = .next (done
        { s with
          dmaCtl := some ⟨d.extractLsb' 0 3, d.extractLsb' 4 3, d.extractLsb' 8 2, d.getLsbD 12⟩ }))

/-- R127 and R129. -/
def Obligations.WrDmaBlockAndEvten : Prop :=
  ∀ (d : Word) (s : State),
    decode 0x810C d = .ok (.wrDmaBlock d) ∧ decode 0x8110 d = .ok (.wrDmaEvten d)
    ∧ (s.dmaState ≠ .idle → exec (.wrDmaBlock d) s = .next (hostFault s .locked (.offset 0x10C))
        ∧ exec (.wrDmaEvten d) s = .next (hostFault s .locked (.offset 0x110)))
    ∧ (s.dmaState = .idle → 2 ^ 16 ≤ d.toNat →
        exec (.wrDmaBlock d) s = .next (hostFault s .reserved (.offsetData 0x10C d)))
    ∧ (s.dmaState = .idle → d.toNat < 2 ^ 16 → exec (.wrDmaBlock d) s = .next
        (done { s with dmaBlock := some (BitVec.ofNat 16 d.toNat) }))
    ∧ (s.dmaState = .idle → 2 ≤ d.toNat →
        exec (.wrDmaEvten d) s = .next (hostFault s .reserved (.offsetData 0x110 d)))
    ∧ (s.dmaState = .idle → d.toNat < 2 →
        exec (.wrDmaEvten d) s = .next (done { s with evtEn := d.getLsbD 0 }))

/-- R131, the whole rule: reserved bits, GO = 0, restart, the first unwritten register, the descriptor
checks in their order, and the start. -/
def Obligations.DmaStartFollowsR131 : Prop :=
  ∀ (d : Word) (s : State), decode 0x8114 d = .ok (.wrDmaStart d)
    ∧ (2 ≤ d.toNat → exec (.wrDmaStart d) s = .next (hostFault s .reserved (.offsetData 0x114 d)))
    ∧ (d.toNat = 0 → exec (.wrDmaStart d) s = .next (done s))
    ∧ (d.toNat = 1 → s.dmaState ≠ .idle →
        exec (.wrDmaStart d) s = .next (hostFault s .restart (.dmaState s.dmaState)))
    ∧ (d.toNat = 1 → s.dmaState = .idle → ∀ r, firstUnwritten s = some r →
        exec (.wrDmaStart d) s = .next (hostFault s .unwritten (.register r)))
    ∧ (d.toNat = 1 → s.dmaState = .idle → firstUnwritten s = none →
        ∀ sar dar ctl n len, s.dmaSar = some sar → s.dmaDar = some dar → s.dmaCtl = some ctl →
          s.dmaBlock = some n → s.crcLength = some len →
          exec (.wrDmaStart d) s = .next (startOn s sar dar ctl n len))

/-- DMA_START completes (R131): GO = 1 from IDLE with all eight registers written, WIDTH 2, TT 0, a block of
1 to MAX_BLOCK_SIZE words, the destination CRC_IR, an aligned source inside 2^32 and off the window, and
LENGTH equal to BLOCK. -/
def Obligations.DmaStartAccepts : Prop :=
  ∀ (s : State) (sar : Word) (ctl : DmaCtl) (n : BitVec 16),
    s.dmaState = .idle → s.dmaSar = some sar → s.dmaDar = some (s.params.blockBase + 0x014) →
    s.dmaCtl = some ctl → s.dmaBlock = some n → s.crcLength = some (n.setWidth 32) →
    s.crcCfg ≠ none → s.crcSeed ≠ none → s.crcCheck ≠ none → ctl.width = 2 → ctl.tt = 0 →
    0 < n.toNat → n.toNat ≤ s.params.maxBlockSize → sar.toNat % 4 = 0 →
    sar.toNat + 4 * n.toNat ≤ 2 ^ 32 →
    (s.params.blockBase.toNat + 0x400 ≤ sar.toNat ∨ sar.toNat + 4 * n.toNat ≤ s.params.blockBase.toNat) →
    exec (.wrDmaStart 1) s = .next (done { s with dmaState := .busy, curSrc := sar, rem := n })

/-- R122, R124, R126, R128: reads of the descriptor registers, unwritten and written. -/
def Obligations.RdDmaDescriptor : Prop :=
  ∀ s : State,
    (s.dmaSar = none → exec .rdDmaSar s = .next (hostFault s .unwritten (.offset 0x100)))
    ∧ (∀ w, s.dmaSar = some w → exec .rdDmaSar s = .next (readDone s 0x100 w))
    ∧ (s.dmaDar = none → exec .rdDmaDar s = .next (hostFault s .unwritten (.offset 0x104)))
    ∧ (∀ w, s.dmaDar = some w → exec .rdDmaDar s = .next (readDone s 0x104 w))
    ∧ (s.dmaCtl = none → exec .rdDmaCtl s = .next (hostFault s .unwritten (.offset 0x108)))
    ∧ (∀ c, s.dmaCtl = some c → exec .rdDmaCtl s = .next (readDone s 0x108 (BitVec.ofNat 32
        (c.width.toNat + 2 ^ 4 * c.burst.toNat + 2 ^ 8 * c.tt.toNat + 2 ^ 12 * c.intEn.toNat))))
    ∧ (s.dmaBlock = none → exec .rdDmaBlock s = .next (hostFault s .unwritten (.offset 0x10C)))
    ∧ (∀ b, s.dmaBlock = some b → exec .rdDmaBlock s = .next (readDone s 0x10C (BitVec.ofNat 32 b.toNat)))

/-! ## The synchronizer's and the indicator's register accesses -/

/-- R157. -/
def Obligations.RdSyncSts : Prop :=
  ∀ s : State,
    (s.dmaState = .idle → exec .rdSyncSts s = .next (hostFault s .order (.offset 0x204)))
    ∧ (s.dmaState ≠ .idle → exec .rdSyncSts s = .next (readDone s 0x204 (if s.sync2 then 1 else 0)))

/-- R182: the threshold is stored unless locked or 0. -/
def Obligations.WrIndThr : Prop :=
  ∀ (d : Word) (s : State), decode 0x8308 d = .ok (.wrIndThr d)
    ∧ (s.dmaState ≠ .idle → exec (.wrIndThr d) s = .next (hostFault s .locked (.offset 0x308)))
    ∧ (s.dmaState = .idle → d.toNat = 0 →
        exec (.wrIndThr d) s = .next (hostFault s .threshold (.offset 0x308)))
    ∧ (s.dmaState = .idle → 0 < d.toNat → exec (.wrIndThr d) s = .next (done { s with indThr := d }))

/-- R100, R104, R130, R132, R134, R181, R183, R184: the reads that complete in every state. DMA_STS shows
STATE [1:0] (IDLE 0, BUSY 1, DONE 2), EVT_RAW [4] and IRQ [5]; IND_STS shows STATE [1:0] (WAITING 0, CHECKING 1,
VERIFIED 2, MISMATCH_BLINK 3), OUT [4] and ARMED [5]. -/
def Obligations.AlwaysReadableRegisters : Prop :=
  ∀ s : State,
    exec .rdCrcCtrl s = .next (readDone s 0x010 (if s.autochk then 1 else 0))
    ∧ exec .rdCrcCnt s = .next (readDone s 0x020 s.count)
    ∧ exec .rdDmaEvten s = .next (readDone s 0x110 (if s.evtEn then 1 else 0))
    ∧ exec .rdDmaSts s = .next (readDone s 0x118 (BitVec.ofNat 32
        ((match s.dmaState with | .idle => 0 | .busy => 1 | .done => 2)
          + 16 * s.evtRaw.toNat + 32 * (s.evtRaw && s.evtEn).toNat)))
    ∧ exec .rdDmaRem s = .next (readDone s 0x120 (BitVec.ofNat 32 s.rem.toNat))
    ∧ exec .rdIndTcnt s = .next (readDone s 0x304 s.tickCnt)
    ∧ exec .rdIndThr s = .next (readDone s 0x308 s.indThr)
    ∧ exec .rdIndSts s = .next (readDone s 0x300 (BitVec.ofNat 32
        ((match s.indState with | .waiting => 0 | .checking => 1 | .verified => 2 | .mismatchBlink => 3)
          + 16 * s.out.toNat + (if s.indState = .mismatchBlink then 32 else 0))))

/-! ## What every access has in common -/

/-- R86: a write of any configuration register while the engine is not IDLE raises F_LOCKED and changes
nothing, whatever its data (the lock comes before the reserved bits); DMA_START raises F_RESTART. -/
def Obligations.LockedConfiguration : Prop :=
  ∀ s : State, s.dmaState ≠ .idle →
    (∀ (i : Instr) (r : Reg) (off : Offset) (d : Word), i.dataWord = some d → i.reg = r →
      (r, off) ∈ [(Reg.crcCfg, 0x000), (.crcSeed, 0x004), (.crcCheck, 0x008), (.crcLength, 0x00C),
        (.crcCtrl, 0x010), (.dmaSar, 0x100), (.dmaDar, 0x104), (.dmaCtl, 0x108), (.dmaBlock, 0x10C),
        (.dmaEvten, 0x110), (.indThr, 0x308)] →
      exec i s = .next (hostFault s .locked (.offset off)))
    ∧ exec (.wrDmaStart 1) s = .next (hostFault s .restart (.dmaState s.dmaState))

/-- R28: a write with a 1 in a reserved bit of its register raises F_RESERVED, where no earlier check
faults, and a completed read of any register shows 0 in every reserved bit. -/
def Obligations.ReservedBits : Prop :=
  (∀ (i : Instr) (d : Word) (s : State), i.dataWord = some d → i.reg.access ≠ .wStar →
      (i.reg.isConfig = true → s.dmaState = .idle) → d &&& i.reg.reserved ≠ 0 →
      exec i s = .next (hostFault s .reserved (.offsetData i.reg.offset d)))
  ∧ (∀ (i : Instr) (s t : State) (e : LogEntry), isRead i → exec i s = .next t →
      t.hostlog = s.hostlog ++ [e] → e.offset = i.reg.offset ∧ e.value &&& i.reg.reserved = 0)

/-- R55: no read changes block state. It completes, with `hpc` advanced and one entry logged, or faults with
only the record written; and a read that completed with a value, repeated with no other agent between,
completes with the same value. -/
def Obligations.ReadsHaveNoSideEffects : Prop :=
  (∀ (i : Instr) (s : State), isRead i →
      (∃ v, exec i s = .next (readDone s i.reg.offset v))
      ∨ ∃ code info, exec i s = .next (hostFault s code info))
  ∧ (∀ (i : Instr) (s t : State) (v : Word), isRead i → exec i s = .next t →
      t = readDone s i.reg.offset v → exec i t = .next (readDone t i.reg.offset v))

/-- The frame of every host instruction, where it answers a next state: no instruction touches the event,
the flag's stages, the indicator, the parameters, the program or a byte of memory; a register changes only
in the write that names it; the CRC state and result only in a CRC_SEED write; the engine's progress only
in DMA_START; the log only in a read; and `hpc` moves by at most 1. -/
def Obligations.HostInstructionFrame : Prop :=
  ∀ (i : Instr) (s t : State), exec i s = .next t →
    (t.evtRaw = s.evtRaw ∧ t.flagSrc = s.flagSrc ∧ t.sync1 = s.sync1 ∧ t.sync2 = s.sync2
      ∧ t.handlerCount = s.handlerCount ∧ t.indState = s.indState ∧ t.out = s.out
      ∧ t.tickCnt = s.tickCnt ∧ t.params = s.params ∧ t.hostProg = s.hostProg ∧ t.sched = s.sched
      ∧ t.turn = s.turn ∧ ∀ a, t.mem.readByte a = s.mem.readByte a)
    ∧ ((i.reg ≠ .crcCfg ∨ isRead i) → t.crcCfg = s.crcCfg)
    ∧ ((i.reg ≠ .crcSeed ∨ isRead i) → t.crcSeed = s.crcSeed ∧ t.crcState = s.crcState
        ∧ t.count = s.count ∧ t.resValid = s.resValid ∧ t.resMismatch = s.resMismatch)
    ∧ ((i.reg ≠ .crcCheck ∨ isRead i) → t.crcCheck = s.crcCheck)
    ∧ ((i.reg ≠ .crcLength ∨ isRead i) → t.crcLength = s.crcLength)
    ∧ ((i.reg ≠ .crcCtrl ∨ isRead i) → t.autochk = s.autochk)
    ∧ ((i.reg ≠ .dmaSar ∨ isRead i) → t.dmaSar = s.dmaSar)
    ∧ ((i.reg ≠ .dmaDar ∨ isRead i) → t.dmaDar = s.dmaDar)
    ∧ ((i.reg ≠ .dmaCtl ∨ isRead i) → t.dmaCtl = s.dmaCtl)
    ∧ ((i.reg ≠ .dmaBlock ∨ isRead i) → t.dmaBlock = s.dmaBlock)
    ∧ ((i.reg ≠ .dmaEvten ∨ isRead i) → t.evtEn = s.evtEn)
    ∧ ((i.reg ≠ .indThr ∨ isRead i) → t.indThr = s.indThr)
    ∧ (i.reg ≠ .dmaStart → t.dmaState = s.dmaState ∧ t.curSrc = s.curSrc ∧ t.rem = s.rem)
    ∧ (¬isRead i → t.hostlog = s.hostlog)
    ∧ (t.hpc = s.hpc + 1 ∧ t.fault = s.fault ∨ t.hpc = s.hpc ∧ t.fault ≠ none)

/-- R234: two configuration writes of different registers, both completing on an IDLE machine, give the same
state in either order. -/
def Obligations.ConfigurationWritesCommute : Prop :=
  ∀ (i j : Instr) (s : State), s.dmaState = .idle → i.reg ≠ j.reg →
    i.reg.isConfig = true → j.reg.isConfig = true → ¬isRead i → ¬isRead j →
    i.wf = true → j.wf = true → i ≠ .wrIndThr 0 → j ≠ .wrIndThr 0 →
    ∃ si sj t, exec i s = .next si ∧ exec j si = .next t ∧ exec j s = .next sj ∧ exec i sj = .next t
      ∧ t.fault = s.fault ∧ t.hpc = s.hpc + 2

/-! ## The autonomous steps -/

/-- R135 with R106 and R109: DMA is enabled exactly while BUSY and not faulted. A word step with its
registers written reads the word at `cur_src`, folds it, counts it, latches the result at the word that
makes the count LENGTH if AUTOCHK is armed, and at the last word becomes DONE and raises the event if
INT_EN = 1; a byte that is not admitted is F_MEM, and then a fold past LENGTH with AUTOCHK armed is
F_OVERRUN. -/
def Obligations.DmaWordStep : Prop :=
  (∀ s : State, s.fault = none → (s.enabled .dma = true ↔ s.dmaState = .busy))
  ∧ (∀ s : State, s.mem.readWord s.curSrc = none →
      dmaStep s = { s with fault := some ⟨.mem, .dma, 0, .address s.curSrc⟩ })
  ∧ (∀ (s : State) (w len : Word), s.mem.readWord s.curSrc = some w → s.autochk = true →
      s.crcLength = some len → len.toNat ≤ s.count.toNat →
      dmaStep s = { s with fault := some ⟨.overrun, .dma, 0, .count s.count⟩ })
  ∧ (∀ (s : State) (w len c0 check : Word) (cfg : CrcCfg) (ctl : DmaCtl),
      s.mem.readWord s.curSrc = some w → s.crcCfg = some cfg → s.crcState = some c0 →
      s.crcLength = some len → s.crcCheck = some check → s.dmaCtl = some ctl →
      (s.autochk = true → s.count.toNat < len.toNat) →
      dmaStep s =
        let c := crc32Step c0 (din s.params.refinGranularity cfg w)
        let latch := s.autochk && s.count + 1 == len
        let last := s.rem - 1 == 0
        { s with
          crcState := some c
          count := s.count + 1
          resMismatch := if latch then crcFinal cfg c != check else s.resMismatch
          resValid := if latch then true else s.resValid
          curSrc := s.curSrc + 4
          rem := s.rem - 1
          dmaState := if last then .done else s.dmaState
          evtRaw := if last && ctl.intEn then true else s.evtRaw })

/-- R13 and R50: `MemRead(a, 4)` is the little-endian word of the four bytes at `a` to `a+3`, and is refused
exactly where one of them is not admitted. -/
def Obligations.MemReadLittleEndian : Prop :=
  (∀ (m : Memory) (a : Word) (b0 b1 b2 b3 : Byte), m.readByte a.toNat = some b0 →
      m.readByte (a + 1).toNat = some b1 → m.readByte (a + 2).toNat = some b2 →
      m.readByte (a + 3).toNat = some b3 →
      ∃ w, m.readWord a = some w ∧ w.extractLsb' 0 8 = b0 ∧ w.extractLsb' 8 8 = b1
        ∧ w.extractLsb' 16 8 = b2 ∧ w.extractLsb' 24 8 = b3)
  ∧ (∀ (m : Memory) (a : Word), m.readWord a = none ↔ m.readByte a.toNat = none
      ∨ m.readByte (a + 1).toNat = none ∨ m.readByte (a + 2).toNat = none
      ∨ m.readByte (a + 3).toNat = none)

/-- R150 and R151: HANDLER is enabled exactly while `evt_raw` and EN are 1; its step acknowledges the event,
sets the flag and counts, and nothing else; then it is not enabled. -/
def Obligations.HandlerStep : Prop :=
  ∀ s : State, s.fault = none →
    (s.enabled .handler = true ↔ s.evtRaw = true ∧ s.evtEn = true)
    ∧ handlerStep s = { s with evtRaw := false, flagSrc := true, handlerCount := s.handlerCount + 1 }
    ∧ (handlerStep s).enabled .handler = false

/-- R155: SYNC is enabled exactly while a stage differs from the one before it; its step shifts both stages
at once, from their old values; two steps after HANDLER's both stages are 1 and SYNC has no step. -/
def Obligations.SyncStep : Prop :=
  ∀ s : State, s.fault = none →
    (s.enabled .sync = true ↔ s.sync1 ≠ s.flagSrc ∨ s.sync2 ≠ s.sync1)
    ∧ syncStep s = { s with sync1 := s.flagSrc, sync2 := s.sync1 }
    ∧ syncStep (syncStep s) = { s with sync1 := s.flagSrc, sync2 := s.flagSrc }
    ∧ (syncStep (syncStep s)).enabled .sync = false

/-- R170, R171 and R172: IND_SEE and IND_CHECK, when IND is enabled and what each step does. -/
def Obligations.IndicatorSteps : Prop :=
  ∀ s : State, s.fault = none →
    (s.indState = .waiting → (s.enabled .ind = true ↔ s.sync2 = true)
      ∧ indStep s = { s with indState := .checking })
    ∧ (s.indState = .checking → s.enabled .ind = true
      ∧ (s.resValid = false → indStep s =
          { s with fault := some ⟨.undefResult, .ind, 0, .countBit s.count s.autochk⟩ })
      ∧ (s.resValid = true → s.resMismatch = false →
          indStep s = { s with indState := .verified, out := true })
      ∧ (s.resValid = true → s.resMismatch = true →
          indStep s = { s with indState := .mismatchBlink, tickCnt := 0 }))

/-- R176 and R177: TICK is enabled exactly in MISMATCH_BLINK; a tick counts, and at the threshold resets the
count and toggles the output. -/
def Obligations.TickStep : Prop :=
  ∀ s : State, s.fault = none →
    (s.enabled .tick = true ↔ s.indState = .mismatchBlink)
    ∧ (s.tickCnt + 1 = s.indThr → tickStep s = { s with tickCnt := 0, out := !s.out })
    ∧ (s.tickCnt + 1 ≠ s.indThr → tickStep s = { s with tickCnt := s.tickCnt + 1 })

/-- R178: k ticks after the entry to MISMATCH_BLINK the count is k mod THR and the output floor(k/THR) mod 2;
each tick raises the count by exactly 1, or takes it from THR-1 to 0 with exactly one toggle. -/
def Obligations.TickerAfterTicks : Prop :=
  (∀ (s : State) (k : Nat), s.indThr ≠ 0 → s.tickCnt = 0 → s.out = false →
      (tickStep^[k] s).tickCnt.toNat = k % s.indThr.toNat
      ∧ (tickStep^[k] s).out = (k / s.indThr.toNat % 2 == 1)
      ∧ (tickStep^[k] s).indThr = s.indThr)
  ∧ (∀ s : State, s.tickCnt.toNat < s.indThr.toNat →
      ((tickStep s).tickCnt.toNat = s.tickCnt.toNat + 1 ∧ (tickStep s).out = s.out)
      ∨ (s.tickCnt.toNat + 1 = s.indThr.toNat ∧ (tickStep s).tickCnt = 0 ∧ (tickStep s).out = !s.out))

/-! ## Rules about the whole machine -/

/-- R175: the codes of the states, and the only transitions of the indicator. -/
def Obligations.IndicatorTransitions : Prop :=
  (IndState.waiting.code = 0 ∧ IndState.checking.code = 1 ∧ IndState.verified.code = 2
    ∧ IndState.mismatchBlink.code = 3 ∧ State.reset.indState = .waiting
    ∧ ∀ s : State, s.indStsWord.extractLsb' 0 2 = s.indState.code)
  ∧ ∀ s t : State, step s = .next t →
    t.indState = s.indState ∨ (s.indState = .waiting ∧ t.indState = .checking)
    ∨ (s.indState = .checking ∧ (t.indState = .verified ∨ t.indState = .mismatchBlink))

/-- R139: the engine goes from IDLE to BUSY to DONE and never back, so there is one run per reset; DMA_START
in BUSY or DONE is F_RESTART. -/
def Obligations.EngineTransitions : Prop :=
  (∀ s t : State, step s = .next t →
    t.dmaState = s.dmaState ∨ (s.dmaState = .idle ∧ t.dmaState = .busy)
    ∨ (s.dmaState = .busy ∧ t.dmaState = .done))
  ∧ ∀ s : State, s.dmaState = .busy ∨ s.dmaState = .done →
    exec (.wrDmaStart 1) s = .next (hostFault s .restart (.dmaState s.dmaState))

/-- R136: only the DMA step that moves the last word sets `evt_raw`, and only with INT_EN = 1; that step
always becomes DONE, and sets it whenever INT_EN = 1. -/
def Obligations.EventOnlyAtLastWord : Prop :=
  (∀ s t : State, step s = .next t → s.evtRaw = false → t.evtRaw = true →
    s.chooseAgent = some .dma ∧ s.dmaState = .busy ∧ s.rem = 1 ∧ t.dmaState = .done
    ∧ ∃ ctl, s.dmaCtl = some ctl ∧ ctl.intEn = true)
  ∧ ∀ (s t : State) (ctl : DmaCtl), s.rem = 1 → s.dmaCtl = some ctl → dmaWord s = .ok t →
    t.dmaState = .done ∧ t.rem = 0 ∧ t.evtRaw = (s.evtRaw || ctl.intEn)

/-- R36: each datum changes only in its writers' steps: the flag in HANDLER's, the stages in SYNC's, the
indicator state in IND's, the tick count and the output in IND's and TICK's, the CRC state and the count in
DMA's and, before the run only, HOST's; and no step changes the event but DMA's and HANDLER's. -/
def Obligations.SingleWriters : Prop :=
  ∀ (s t : State) (a : Agent), s.chooseAgent = some a → step s = .next t →
    (a ≠ .handler → t.flagSrc = s.flagSrc ∧ t.handlerCount = s.handlerCount)
    ∧ (a ≠ .sync → t.sync1 = s.sync1 ∧ t.sync2 = s.sync2)
    ∧ (a ≠ .ind → t.indState = s.indState)
    ∧ (a ≠ .ind → a ≠ .tick → t.tickCnt = s.tickCnt ∧ t.out = s.out)
    ∧ (a ≠ .dma → a ≠ .host ∨ s.dmaState ≠ .idle → t.crcState = s.crcState ∧ t.count = s.count
        ∧ t.resValid = s.resValid ∧ t.resMismatch = s.resMismatch)
    ∧ (a ≠ .dma → a ≠ .handler → t.evtRaw = s.evtRaw)

/-- "Immutable once programmed into hardware for the duration of one verification run" (R30, R86): no step
of any agent changes a configuration register while the engine is not IDLE. -/
def Obligations.ConfigurationImmutableInRun : Prop :=
  ∀ s t : State, s.dmaState ≠ .idle → step s = .next t →
    t.crcCfg = s.crcCfg ∧ t.crcSeed = s.crcSeed ∧ t.crcCheck = s.crcCheck ∧ t.crcLength = s.crcLength
    ∧ t.autochk = s.autochk ∧ t.dmaSar = s.dmaSar ∧ t.dmaDar = s.dmaDar ∧ t.dmaCtl = s.dmaCtl
    ∧ t.dmaBlock = s.dmaBlock ∧ t.evtEn = s.evtEn ∧ t.indThr = s.indThr

/-- R58 and R65: no step of any agent writes a byte of the launch memory, the host program or a parameter. -/
def Obligations.ParametersNeverWritten : Prop :=
  ∀ s t : State, step s = .next t →
    t.params = s.params ∧ t.hostProg = s.hostProg ∧ ∀ a, t.mem.readByte a = s.mem.readByte a

/-- R156: the flag's stages never fall, keep their order, and rise one at a time: `flag_src` at HANDLER's
step, `sync1` at the first SYNC step after it, `sync2` at the second, since a SYNC step shifts both. -/
def Obligations.FlagMonotone : Prop :=
  ∀ s t : State, s.Inv → step s = .next t →
    ((t.sync2 = true → t.sync1 = true) ∧ (t.sync1 = true → t.flagSrc = true))
    ∧ ((s.flagSrc = true → t.flagSrc = true) ∧ (s.sync1 = true → t.sync1 = true)
      ∧ (s.sync2 = true → t.sync2 = true))
    ∧ (s.chooseAgent = some .sync → t.sync1 = s.flagSrc ∧ t.sync2 = s.sync1)
    ∧ (s.flagSrc = false → t.flagSrc = true → s.chooseAgent = some .handler)
    ∧ (s.sync1 = false → t.sync1 = true → s.chooseAgent = some .sync ∧ s.flagSrc = true)
    ∧ (s.sync2 = false → t.sync2 = true → s.chooseAgent = some .sync ∧ s.sync1 = true)

/-- R207: the completion event and the tick are never both enabled. -/
def Obligations.EventAndTickNeverBothEnabled : Prop :=
  ∀ s : State, s.Inv → ¬(s.enabled .handler = true ∧ s.enabled .tick = true)

/-- R62: when the visible flag is 1, all words of the block have been folded, the engine is DONE, the result
is latched if AUTOCHK is armed, and the running CRC is that of the whole block. -/
def Obligations.VisibleFlagMeansBlockFolded : Prop :=
  ∀ s : State, s.Inv → s.sync2 = true →
    s.dmaState = .done ∧ s.blockSize = some s.count.toNat ∧ s.resValid = s.autochk
    ∧ s.crcState = s.blockCrc s.count.toNat

/-- R106, R135 and R172: after an accepted DMA_START a word step faults only with F_MEM, never F_OVERRUN or
F_UNWRITTEN, and IND_CHECK faults only in a run whose AUTOCHK is 0. -/
def Obligations.AutonomousFaultsAreOnlyThese : Prop :=
  ∀ (s t : State) (r : FaultRecord), s.Inv → step s = .next t → t.fault = some r →
    (r.agent = .dma → r.code = .mem ∧ s.mem.readWord s.curSrc = none)
    ∧ (r.agent = .ind → r.code = .undefResult ∧ s.autochk = false)

/-- R173, R174 and R179: in VERIFIED the output is 1, IND and TICK have no step, and no step leaves VERIFIED
or changes the output; in WAITING and CHECKING the output is 0; in MISMATCH_BLINK IND has no step, TICK has
one, and no step leaves the state. -/
def Obligations.TerminalStates : Prop :=
  ∀ s : State, s.Inv → s.fault = none →
    (s.indState = .verified → s.out = true ∧ s.enabled .ind = false ∧ s.enabled .tick = false
      ∧ ∀ t, step s = .next t → t.indState = .verified ∧ t.out = true)
    ∧ (s.indState = .waiting ∨ s.indState = .checking → s.out = false)
    ∧ (s.indState = .mismatchBlink → s.enabled .ind = false ∧ s.enabled .tick = true
      ∧ ∀ t, step s = .next t → t.indState = .mismatchBlink)

/-- The verdict is the block's (R106, R137, R172): in VERIFIED the final CRC of the whole source block equals
CRC_CHECK, and in MISMATCH_BLINK it differs. -/
def Obligations.VerdictIsTheBlocksCrc : Prop :=
  ∀ s : State, s.Inv → s.indState = .verified ∨ s.indState = .mismatchBlink →
    ∃ n sar seed cfg check c, s.dmaBlock = some n ∧ s.dmaSar = some sar ∧ s.crcSeed = some seed
      ∧ s.crcCfg = some cfg ∧ s.crcCheck = some check
      ∧ crcOfBlock s.params.refinGranularity cfg s.mem sar seed n.toNat = some c
      ∧ (s.indState = .verified ↔ crcFinal cfg c = check)

/-- The machine's invariant holds at reset (the parameters' values are the model's, log entries 2 to 4). -/
def Obligations.InvariantAtReset : Prop := State.reset.Inv

/-- Every step of every agent keeps the invariant, from any state that meets it. -/
def Obligations.StepKeepsInvariant : Prop := ∀ s t : State, s.Inv → step s = .next t → t.Inv

/-! ## Runs to a verdict -/

/-- R140 and R220 without a host in the way: from a BUSY engine with HOST finished, AUTOCHK, INT_EN and EN
set and the whole block admitted, the words left and then HANDLER, SYNC twice, IND_SEE and IND_CHECK are the
next steps under every schedule, and the run is final VERIFIED with the output active if the block's final
CRC is CRC_CHECK, and settled MISMATCH with the output inactive and the count 0 if not. -/
def Obligations.RunReachesVerdictInBoundedSteps : Prop :=
  ∀ (s : State) (ctl : DmaCtl) (cfg : CrcCfg) (n : BitVec 16) (check c : Word),
    s.Inv → s.fault = none → s.hpc = s.hostProg.length → s.dmaState = .busy → s.autochk = true →
    s.evtEn = true → s.dmaCtl = some ctl → ctl.intEn = true → s.crcCfg = some cfg →
    s.crcCheck = some check → s.dmaBlock = some n → s.blockCrc n.toNat = some c →
    ∃ t : State, Host.Core.run Sys2Proof.core (s.rem.toNat + 5) s = .next t
      ∧ (crcFinal cfg c = check → t.finalVerified = true ∧ t.out = true)
      ∧ (crcFinal cfg c ≠ check → t.settledMismatch = true ∧ t.out = false ∧ t.tickCnt = 0)

/-- R140, R152, R220 and R221 for any host program and any schedule: a weakly fair run without a fault that
starts BUSY with INT_EN and EN set reaches DONE, runs HANDLER exactly once, and reaches a verdict (R172),
which is VERIFIED exactly if the final CRC of the block is CRC_CHECK (R106). Fairness is a premise (log entry
16). `IsRun` says that no step faults, so a run with AUTOCHK = 0 is none of these: its IND_CHECK is
F_UNDEF_RESULT (R172), which `AutonomousFaultsAreOnlyThese` and `IndicatorSteps` speak of. -/
def Obligations.FairRunReachesVerdict : Prop :=
  ∀ (run : Nat → State) (ctl : DmaCtl), IsRun run → WeaklyFair run → (run 0).Inv →
    (run 0).dmaState = .busy → (run 0).evtEn = true → (run 0).dmaCtl = some ctl → ctl.intEn = true →
    (∃ n, (run n).dmaState = .done) ∧ (∃ n, ∀ m, n ≤ m → (run m).handlerCount = 1)
    ∧ ∃ n size, (run 0).blockSize = some size
      ∧ ((run n).indState = .verified ∨ (run n).indState = .mismatchBlink)
      ∧ ((run n).indState = .verified ↔
          (run 0).mismatchOf ((run 0).blockCrc size) = some false)

/-! ## The CRC mathematics -/

/-- R16, R105 and R108: the bit reversals bit by bit with their worked values, the input transform in its
three cases, and the final value, in which reflection and inversion commute. -/
def Obligations.ReflectionFunctions : Prop :=
  (∀ (x : Word) (i : Nat), i < 32 → (rev32 x).getLsbD i = x.getLsbD (31 - i))
  ∧ (∀ (x : Word) (k i : Nat), k < 4 → i < 8 →
      (rev8each x).getLsbD (8 * k + i) = x.getLsbD (8 * k + 7 - i))
  ∧ rev32 0x12345678 = 0x1E6A2C48 ∧ rev8each 0x12345678 = 0x482C6A1E
  ∧ (∀ (g : Granularity) (cfg : CrcCfg) (w : Word),
      (cfg.refin = false → din g cfg w = w)
      ∧ (cfg.refin = true → din .word32 cfg w = rev32 w ∧ din .byte cfg w = rev8each w))
  ∧ (∀ (cfg : CrcCfg) (c : Word), crcFinal cfg c =
      (if cfg.refout then rev32 c else c) ^^^ (if cfg.xorout then 0xFFFFFFFF else 0))
  ∧ (∀ x : Word, rev32 (x ^^^ 0xFFFFFFFF) = rev32 x ^^^ 0xFFFFFFFF)

/-- R107: `crc32_step` is 32 shifts of `c ^ d`, and it is linear over GF(2). -/
def Obligations.CrcStepIsLinear : Prop :=
  (∀ c d : Word, crc32Step c d = shiftPoly^[32] (c ^^^ d))
  ∧ (∀ a b : Word, crc32Step (a ^^^ b) 0 = crc32Step a 0 ^^^ crc32Step b 0)
  ∧ crc32Step 0 0 = 0

/-- R110 and R111: over any list of words from seed 0xFFFFFFFF, the reflected configuration under WORD32 is
the standard reflected CRC-32 of the words' bytes in little-endian order, and under BYTE in big-endian
order; the plain one is CRC-32/MPEG-2, and with XOROUT alone CRC-32/BZIP2, of the bytes in big-endian
order. The standard byte steps are general knowledge (log entry 15). -/
def Obligations.StandardCrcVariants : Prop :=
  ∀ ws : List Word,
    crcFinal ⟨true, true, true⟩ (foldWords .word32 ⟨true, true, true⟩ ws)
      = ((ws.flatMap leBytes).foldl reflectedByte 0xFFFFFFFF) ^^^ 0xFFFFFFFF
    ∧ crcFinal ⟨true, true, true⟩ (foldWords .byte ⟨true, true, true⟩ ws)
      = ((ws.flatMap beBytes).foldl reflectedByte 0xFFFFFFFF) ^^^ 0xFFFFFFFF
    ∧ ∀ g : Granularity, crcFinal ⟨false, false, false⟩ (foldWords g ⟨false, false, false⟩ ws)
        = (ws.flatMap beBytes).foldl straightByte 0xFFFFFFFF
      ∧ crcFinal ⟨false, false, true⟩ (foldWords g ⟨false, false, true⟩ ws)
        = ((ws.flatMap beBytes).foldl straightByte 0xFFFFFFFF) ^^^ 0xFFFFFFFF
end

