-- ==== Sys2Proof/Laws/Memory.lean ====
section
/-! SUPPORT. The launch memory: reading after admitting a byte, and the canonical form. -/

namespace Sys2Proof.Machine

theorem Memory.wf_nil : Memory.wf [] = true := rfl

theorem Memory.wf_cons (c : Host.Cell) (m : Memory) :
    Memory.wf (c :: m) = true ↔ (∀ d ∈ m, c.1 < d.1) ∧ c.1 < 2 ^ 32 ∧ Memory.wf m = true := by
  simp [Memory.wf]
  tauto

theorem Memory.readByte_insertByte_same (m : Memory) (a : Nat) (b : Byte) :
    (m.insertByte a b).readByte a = some b := by
  induction m with
  | nil => simp [Memory.insertByte, Memory.readByte]
  | cons c m ih =>
    obtain ⟨k, c⟩ := c
    simp only [Memory.insertByte]
    split
    · simp [Memory.readByte]
    · split
      · simp [Memory.readByte]
      · simp [Memory.readByte, Ne.symm (by assumption : ¬a = k), ih]

theorem Memory.readByte_insertByte_other (m : Memory) (a x : Nat) (b : Byte) (h : x ≠ a) :
    (m.insertByte a b).readByte x = m.readByte x := by
  induction m with
  | nil => simp [Memory.insertByte, Memory.readByte, h.symm]
  | cons c m ih =>
    obtain ⟨k, c⟩ := c
    simp only [Memory.insertByte]
    split
    · simp [Memory.readByte, h.symm]
    · split
      · next hk => subst hk; simp [Memory.readByte, h.symm]
      · simp [Memory.readByte, ih]

/-- The addresses of `m.insertByte a b` are `a` and those of `m`. -/
theorem Memory.mem_insertByte (m : Memory) (a : Nat) (b : Byte) (c : Host.Cell)
    (h : c ∈ m.insertByte a b) : c = (a, b) ∨ c ∈ m := by
  induction m with
  | nil => simpa [Memory.insertByte] using h
  | cons d m ih =>
    obtain ⟨k, d⟩ := d
    simp only [Memory.insertByte] at h
    split at h
    · simpa using h
    · split at h <;> simp only [List.mem_cons] at h ⊢ <;> tauto

/-- Admitting a byte of the address space keeps the canonical form. -/
theorem Memory.wf_insertByte (m : Memory) (a : Nat) (b : Byte) (ha : a < 2 ^ 32)
    (h : m.wf = true) : (m.insertByte a b).wf = true := by
  induction m with
  | nil => simp only [Memory.insertByte, Memory.wf_cons]; exact ⟨by simp, ha, rfl⟩
  | cons c m ih =>
    obtain ⟨k, c⟩ := c
    have h' := h
    rw [Memory.wf_cons] at h'
    obtain ⟨h1, h2, h3⟩ := h'
    simp only [Memory.insertByte]
    split
    · next hlt =>
      rw [Memory.wf_cons]
      refine ⟨fun d hd => ?_, ha, h⟩
      rcases List.mem_cons.mp hd with rfl | hd
      · exact hlt
      · exact lt_trans hlt (h1 d hd)
    · split
      · next hk =>
        subst hk
        exact (Memory.wf_cons _ _).mpr ⟨h1, ha, h3⟩
      · next hlt hne =>
        refine (Memory.wf_cons _ _).mpr ⟨fun d hd => ?_, h2, ih h3⟩
        rcases Memory.mem_insertByte m a b d hd with rfl | hd
        · show k < a
          omega
        · exact h1 d hd

/-- A word is read exactly where its four bytes are admitted, least significant first. -/
theorem Memory.readWord_eq_some (m : Memory) (a w : Word) :
    m.readWord a = some w ↔ ∃ b0 b1 b2 b3, m.readByte a.toNat = some b0
      ∧ m.readByte (a + 1).toNat = some b1 ∧ m.readByte (a + 2).toNat = some b2
      ∧ m.readByte (a + 3).toNat = some b3 ∧ w = b3 ++ b2 ++ b1 ++ b0 := by
  unfold Memory.readWord
  split
  · next b0 b1 b2 b3 h0 h1 h2 h3 =>
    rw [h0, h1, h2, h3]
    simp [eq_comm]
  · next h =>
    simp only [reduceCtorEq, false_iff, not_exists, not_and]
    intro b0 b1 b2 b3 h0 h1 h2 h3 _
    exact h b0 b1 b2 b3 h0 h1 h2 h3

end Sys2Proof.Machine
end

