-- ==== Sys2Proof/Laws/State.lean ====
section
/-! SUPPORT. One lemma per field per named update of the state: what the update leaves of the field. -/

namespace Sys2Proof.Machine

variable (s : State)

/-! `raise` -/

@[simp] theorem raise_crcCfg (a : Agent) (c : Cause) : (s.raise a c).crcCfg = s.crcCfg := rfl
@[simp] theorem raise_crcSeed (a : Agent) (c : Cause) : (s.raise a c).crcSeed = s.crcSeed := rfl
@[simp] theorem raise_crcCheck (a : Agent) (c : Cause) : (s.raise a c).crcCheck = s.crcCheck := rfl
@[simp] theorem raise_crcLength (a : Agent) (c : Cause) : (s.raise a c).crcLength = s.crcLength := rfl
@[simp] theorem raise_autochk (a : Agent) (c : Cause) : (s.raise a c).autochk = s.autochk := rfl
@[simp] theorem raise_dmaSar (a : Agent) (c : Cause) : (s.raise a c).dmaSar = s.dmaSar := rfl
@[simp] theorem raise_dmaDar (a : Agent) (c : Cause) : (s.raise a c).dmaDar = s.dmaDar := rfl
@[simp] theorem raise_dmaCtl (a : Agent) (c : Cause) : (s.raise a c).dmaCtl = s.dmaCtl := rfl
@[simp] theorem raise_dmaBlock (a : Agent) (c : Cause) : (s.raise a c).dmaBlock = s.dmaBlock := rfl
@[simp] theorem raise_evtEn (a : Agent) (c : Cause) : (s.raise a c).evtEn = s.evtEn := rfl
@[simp] theorem raise_indThr (a : Agent) (c : Cause) : (s.raise a c).indThr = s.indThr := rfl
@[simp] theorem raise_crcState (a : Agent) (c : Cause) : (s.raise a c).crcState = s.crcState := rfl
@[simp] theorem raise_count (a : Agent) (c : Cause) : (s.raise a c).count = s.count := rfl
@[simp] theorem raise_resValid (a : Agent) (c : Cause) : (s.raise a c).resValid = s.resValid := rfl
@[simp] theorem raise_resMismatch (a : Agent) (c : Cause) : (s.raise a c).resMismatch = s.resMismatch := rfl
@[simp] theorem raise_dmaState (a : Agent) (c : Cause) : (s.raise a c).dmaState = s.dmaState := rfl
@[simp] theorem raise_curSrc (a : Agent) (c : Cause) : (s.raise a c).curSrc = s.curSrc := rfl
@[simp] theorem raise_rem (a : Agent) (c : Cause) : (s.raise a c).rem = s.rem := rfl
@[simp] theorem raise_evtRaw (a : Agent) (c : Cause) : (s.raise a c).evtRaw = s.evtRaw := rfl
@[simp] theorem raise_flagSrc (a : Agent) (c : Cause) : (s.raise a c).flagSrc = s.flagSrc := rfl
@[simp] theorem raise_sync1 (a : Agent) (c : Cause) : (s.raise a c).sync1 = s.sync1 := rfl
@[simp] theorem raise_sync2 (a : Agent) (c : Cause) : (s.raise a c).sync2 = s.sync2 := rfl
@[simp] theorem raise_handlerCount (a : Agent) (c : Cause) : (s.raise a c).handlerCount = s.handlerCount := rfl
@[simp] theorem raise_indState (a : Agent) (c : Cause) : (s.raise a c).indState = s.indState := rfl
@[simp] theorem raise_out (a : Agent) (c : Cause) : (s.raise a c).out = s.out := rfl
@[simp] theorem raise_tickCnt (a : Agent) (c : Cause) : (s.raise a c).tickCnt = s.tickCnt := rfl
@[simp] theorem raise_hpc (a : Agent) (c : Cause) : (s.raise a c).hpc = s.hpc := rfl
@[simp] theorem raise_hostlog (a : Agent) (c : Cause) : (s.raise a c).hostlog = s.hostlog := rfl
@[simp] theorem raise_fault (a : Agent) (c : Cause) : (s.raise a c).fault = some ⟨c.code, a, if a = .host then s.hpc else 0, c.info⟩ := rfl
@[simp] theorem raise_params (a : Agent) (c : Cause) : (s.raise a c).params = s.params := rfl
@[simp] theorem raise_hostProg (a : Agent) (c : Cause) : (s.raise a c).hostProg = s.hostProg := rfl
@[simp] theorem raise_mem (a : Agent) (c : Cause) : (s.raise a c).mem = s.mem := rfl
@[simp] theorem raise_sched (a : Agent) (c : Cause) : (s.raise a c).sched = s.sched := rfl
@[simp] theorem raise_turn (a : Agent) (c : Cause) : (s.raise a c).turn = s.turn := rfl

/-! `advance` -/

@[simp] theorem advance_crcCfg : s.advance.crcCfg = s.crcCfg := rfl
@[simp] theorem advance_crcSeed : s.advance.crcSeed = s.crcSeed := rfl
@[simp] theorem advance_crcCheck : s.advance.crcCheck = s.crcCheck := rfl
@[simp] theorem advance_crcLength : s.advance.crcLength = s.crcLength := rfl
@[simp] theorem advance_autochk : s.advance.autochk = s.autochk := rfl
@[simp] theorem advance_dmaSar : s.advance.dmaSar = s.dmaSar := rfl
@[simp] theorem advance_dmaDar : s.advance.dmaDar = s.dmaDar := rfl
@[simp] theorem advance_dmaCtl : s.advance.dmaCtl = s.dmaCtl := rfl
@[simp] theorem advance_dmaBlock : s.advance.dmaBlock = s.dmaBlock := rfl
@[simp] theorem advance_evtEn : s.advance.evtEn = s.evtEn := rfl
@[simp] theorem advance_indThr : s.advance.indThr = s.indThr := rfl
@[simp] theorem advance_crcState : s.advance.crcState = s.crcState := rfl
@[simp] theorem advance_count : s.advance.count = s.count := rfl
@[simp] theorem advance_resValid : s.advance.resValid = s.resValid := rfl
@[simp] theorem advance_resMismatch : s.advance.resMismatch = s.resMismatch := rfl
@[simp] theorem advance_dmaState : s.advance.dmaState = s.dmaState := rfl
@[simp] theorem advance_curSrc : s.advance.curSrc = s.curSrc := rfl
@[simp] theorem advance_rem : s.advance.rem = s.rem := rfl
@[simp] theorem advance_evtRaw : s.advance.evtRaw = s.evtRaw := rfl
@[simp] theorem advance_flagSrc : s.advance.flagSrc = s.flagSrc := rfl
@[simp] theorem advance_sync1 : s.advance.sync1 = s.sync1 := rfl
@[simp] theorem advance_sync2 : s.advance.sync2 = s.sync2 := rfl
@[simp] theorem advance_handlerCount : s.advance.handlerCount = s.handlerCount := rfl
@[simp] theorem advance_indState : s.advance.indState = s.indState := rfl
@[simp] theorem advance_out : s.advance.out = s.out := rfl
@[simp] theorem advance_tickCnt : s.advance.tickCnt = s.tickCnt := rfl
@[simp] theorem advance_hpc : s.advance.hpc = s.hpc + 1 := rfl
@[simp] theorem advance_hostlog : s.advance.hostlog = s.hostlog := rfl
@[simp] theorem advance_fault : s.advance.fault = s.fault := rfl
@[simp] theorem advance_params : s.advance.params = s.params := rfl
@[simp] theorem advance_hostProg : s.advance.hostProg = s.hostProg := rfl
@[simp] theorem advance_mem : s.advance.mem = s.mem := rfl
@[simp] theorem advance_sched : s.advance.sched = s.sched := rfl
@[simp] theorem advance_turn : s.advance.turn = s.turn := rfl

/-! `completeRead` -/

@[simp] theorem completeRead_crcCfg (r : Reg) (v : Word) : (s.completeRead r v).crcCfg = s.crcCfg := rfl
@[simp] theorem completeRead_crcSeed (r : Reg) (v : Word) : (s.completeRead r v).crcSeed = s.crcSeed := rfl
@[simp] theorem completeRead_crcCheck (r : Reg) (v : Word) : (s.completeRead r v).crcCheck = s.crcCheck := rfl
@[simp] theorem completeRead_crcLength (r : Reg) (v : Word) : (s.completeRead r v).crcLength = s.crcLength := rfl
@[simp] theorem completeRead_autochk (r : Reg) (v : Word) : (s.completeRead r v).autochk = s.autochk := rfl
@[simp] theorem completeRead_dmaSar (r : Reg) (v : Word) : (s.completeRead r v).dmaSar = s.dmaSar := rfl
@[simp] theorem completeRead_dmaDar (r : Reg) (v : Word) : (s.completeRead r v).dmaDar = s.dmaDar := rfl
@[simp] theorem completeRead_dmaCtl (r : Reg) (v : Word) : (s.completeRead r v).dmaCtl = s.dmaCtl := rfl
@[simp] theorem completeRead_dmaBlock (r : Reg) (v : Word) : (s.completeRead r v).dmaBlock = s.dmaBlock := rfl
@[simp] theorem completeRead_evtEn (r : Reg) (v : Word) : (s.completeRead r v).evtEn = s.evtEn := rfl
@[simp] theorem completeRead_indThr (r : Reg) (v : Word) : (s.completeRead r v).indThr = s.indThr := rfl
@[simp] theorem completeRead_crcState (r : Reg) (v : Word) : (s.completeRead r v).crcState = s.crcState := rfl
@[simp] theorem completeRead_count (r : Reg) (v : Word) : (s.completeRead r v).count = s.count := rfl
@[simp] theorem completeRead_resValid (r : Reg) (v : Word) : (s.completeRead r v).resValid = s.resValid := rfl
@[simp] theorem completeRead_resMismatch (r : Reg) (v : Word) : (s.completeRead r v).resMismatch = s.resMismatch := rfl
@[simp] theorem completeRead_dmaState (r : Reg) (v : Word) : (s.completeRead r v).dmaState = s.dmaState := rfl
@[simp] theorem completeRead_curSrc (r : Reg) (v : Word) : (s.completeRead r v).curSrc = s.curSrc := rfl
@[simp] theorem completeRead_rem (r : Reg) (v : Word) : (s.completeRead r v).rem = s.rem := rfl
@[simp] theorem completeRead_evtRaw (r : Reg) (v : Word) : (s.completeRead r v).evtRaw = s.evtRaw := rfl
@[simp] theorem completeRead_flagSrc (r : Reg) (v : Word) : (s.completeRead r v).flagSrc = s.flagSrc := rfl
@[simp] theorem completeRead_sync1 (r : Reg) (v : Word) : (s.completeRead r v).sync1 = s.sync1 := rfl
@[simp] theorem completeRead_sync2 (r : Reg) (v : Word) : (s.completeRead r v).sync2 = s.sync2 := rfl
@[simp] theorem completeRead_handlerCount (r : Reg) (v : Word) : (s.completeRead r v).handlerCount = s.handlerCount := rfl
@[simp] theorem completeRead_indState (r : Reg) (v : Word) : (s.completeRead r v).indState = s.indState := rfl
@[simp] theorem completeRead_out (r : Reg) (v : Word) : (s.completeRead r v).out = s.out := rfl
@[simp] theorem completeRead_tickCnt (r : Reg) (v : Word) : (s.completeRead r v).tickCnt = s.tickCnt := rfl
@[simp] theorem completeRead_hpc (r : Reg) (v : Word) : (s.completeRead r v).hpc = s.hpc + 1 := rfl
@[simp] theorem completeRead_hostlog (r : Reg) (v : Word) : (s.completeRead r v).hostlog = s.hostlog ++ [⟨s.hpc, r.offset, v⟩] := rfl
@[simp] theorem completeRead_fault (r : Reg) (v : Word) : (s.completeRead r v).fault = s.fault := rfl
@[simp] theorem completeRead_params (r : Reg) (v : Word) : (s.completeRead r v).params = s.params := rfl
@[simp] theorem completeRead_hostProg (r : Reg) (v : Word) : (s.completeRead r v).hostProg = s.hostProg := rfl
@[simp] theorem completeRead_mem (r : Reg) (v : Word) : (s.completeRead r v).mem = s.mem := rfl
@[simp] theorem completeRead_sched (r : Reg) (v : Word) : (s.completeRead r v).sched = s.sched := rfl
@[simp] theorem completeRead_turn (r : Reg) (v : Word) : (s.completeRead r v).turn = s.turn := rfl

/-! `nextTurn` -/

@[simp] theorem nextTurn_crcCfg : s.nextTurn.crcCfg = s.crcCfg := rfl
@[simp] theorem nextTurn_crcSeed : s.nextTurn.crcSeed = s.crcSeed := rfl
@[simp] theorem nextTurn_crcCheck : s.nextTurn.crcCheck = s.crcCheck := rfl
@[simp] theorem nextTurn_crcLength : s.nextTurn.crcLength = s.crcLength := rfl
@[simp] theorem nextTurn_autochk : s.nextTurn.autochk = s.autochk := rfl
@[simp] theorem nextTurn_dmaSar : s.nextTurn.dmaSar = s.dmaSar := rfl
@[simp] theorem nextTurn_dmaDar : s.nextTurn.dmaDar = s.dmaDar := rfl
@[simp] theorem nextTurn_dmaCtl : s.nextTurn.dmaCtl = s.dmaCtl := rfl
@[simp] theorem nextTurn_dmaBlock : s.nextTurn.dmaBlock = s.dmaBlock := rfl
@[simp] theorem nextTurn_evtEn : s.nextTurn.evtEn = s.evtEn := rfl
@[simp] theorem nextTurn_indThr : s.nextTurn.indThr = s.indThr := rfl
@[simp] theorem nextTurn_crcState : s.nextTurn.crcState = s.crcState := rfl
@[simp] theorem nextTurn_count : s.nextTurn.count = s.count := rfl
@[simp] theorem nextTurn_resValid : s.nextTurn.resValid = s.resValid := rfl
@[simp] theorem nextTurn_resMismatch : s.nextTurn.resMismatch = s.resMismatch := rfl
@[simp] theorem nextTurn_dmaState : s.nextTurn.dmaState = s.dmaState := rfl
@[simp] theorem nextTurn_curSrc : s.nextTurn.curSrc = s.curSrc := rfl
@[simp] theorem nextTurn_rem : s.nextTurn.rem = s.rem := rfl
@[simp] theorem nextTurn_evtRaw : s.nextTurn.evtRaw = s.evtRaw := rfl
@[simp] theorem nextTurn_flagSrc : s.nextTurn.flagSrc = s.flagSrc := rfl
@[simp] theorem nextTurn_sync1 : s.nextTurn.sync1 = s.sync1 := rfl
@[simp] theorem nextTurn_sync2 : s.nextTurn.sync2 = s.sync2 := rfl
@[simp] theorem nextTurn_handlerCount : s.nextTurn.handlerCount = s.handlerCount := rfl
@[simp] theorem nextTurn_indState : s.nextTurn.indState = s.indState := rfl
@[simp] theorem nextTurn_out : s.nextTurn.out = s.out := rfl
@[simp] theorem nextTurn_tickCnt : s.nextTurn.tickCnt = s.tickCnt := rfl
@[simp] theorem nextTurn_hpc : s.nextTurn.hpc = s.hpc := rfl
@[simp] theorem nextTurn_hostlog : s.nextTurn.hostlog = s.hostlog := rfl
@[simp] theorem nextTurn_fault : s.nextTurn.fault = s.fault := rfl
@[simp] theorem nextTurn_params : s.nextTurn.params = s.params := rfl
@[simp] theorem nextTurn_hostProg : s.nextTurn.hostProg = s.hostProg := rfl
@[simp] theorem nextTurn_mem : s.nextTurn.mem = s.mem := rfl
@[simp] theorem nextTurn_sched : s.nextTurn.sched = s.sched.tail := rfl
@[simp] theorem nextTurn_turn : s.nextTurn.turn = s.turn + 1 := rfl

/-! `handlerStep` -/

@[simp] theorem handlerStep_crcCfg : (handlerStep s).crcCfg = s.crcCfg := rfl
@[simp] theorem handlerStep_crcSeed : (handlerStep s).crcSeed = s.crcSeed := rfl
@[simp] theorem handlerStep_crcCheck : (handlerStep s).crcCheck = s.crcCheck := rfl
@[simp] theorem handlerStep_crcLength : (handlerStep s).crcLength = s.crcLength := rfl
@[simp] theorem handlerStep_autochk : (handlerStep s).autochk = s.autochk := rfl
@[simp] theorem handlerStep_dmaSar : (handlerStep s).dmaSar = s.dmaSar := rfl
@[simp] theorem handlerStep_dmaDar : (handlerStep s).dmaDar = s.dmaDar := rfl
@[simp] theorem handlerStep_dmaCtl : (handlerStep s).dmaCtl = s.dmaCtl := rfl
@[simp] theorem handlerStep_dmaBlock : (handlerStep s).dmaBlock = s.dmaBlock := rfl
@[simp] theorem handlerStep_evtEn : (handlerStep s).evtEn = s.evtEn := rfl
@[simp] theorem handlerStep_indThr : (handlerStep s).indThr = s.indThr := rfl
@[simp] theorem handlerStep_crcState : (handlerStep s).crcState = s.crcState := rfl
@[simp] theorem handlerStep_count : (handlerStep s).count = s.count := rfl
@[simp] theorem handlerStep_resValid : (handlerStep s).resValid = s.resValid := rfl
@[simp] theorem handlerStep_resMismatch : (handlerStep s).resMismatch = s.resMismatch := rfl
@[simp] theorem handlerStep_dmaState : (handlerStep s).dmaState = s.dmaState := rfl
@[simp] theorem handlerStep_curSrc : (handlerStep s).curSrc = s.curSrc := rfl
@[simp] theorem handlerStep_rem : (handlerStep s).rem = s.rem := rfl
@[simp] theorem handlerStep_evtRaw : (handlerStep s).evtRaw = false := rfl
@[simp] theorem handlerStep_flagSrc : (handlerStep s).flagSrc = true := rfl
@[simp] theorem handlerStep_sync1 : (handlerStep s).sync1 = s.sync1 := rfl
@[simp] theorem handlerStep_sync2 : (handlerStep s).sync2 = s.sync2 := rfl
@[simp] theorem handlerStep_handlerCount : (handlerStep s).handlerCount = s.handlerCount + 1 := rfl
@[simp] theorem handlerStep_indState : (handlerStep s).indState = s.indState := rfl
@[simp] theorem handlerStep_out : (handlerStep s).out = s.out := rfl
@[simp] theorem handlerStep_tickCnt : (handlerStep s).tickCnt = s.tickCnt := rfl
@[simp] theorem handlerStep_hpc : (handlerStep s).hpc = s.hpc := rfl
@[simp] theorem handlerStep_hostlog : (handlerStep s).hostlog = s.hostlog := rfl
@[simp] theorem handlerStep_fault : (handlerStep s).fault = s.fault := rfl
@[simp] theorem handlerStep_params : (handlerStep s).params = s.params := rfl
@[simp] theorem handlerStep_hostProg : (handlerStep s).hostProg = s.hostProg := rfl
@[simp] theorem handlerStep_mem : (handlerStep s).mem = s.mem := rfl
@[simp] theorem handlerStep_sched : (handlerStep s).sched = s.sched := rfl
@[simp] theorem handlerStep_turn : (handlerStep s).turn = s.turn := rfl

/-! `syncStep` -/

@[simp] theorem syncStep_crcCfg : (syncStep s).crcCfg = s.crcCfg := rfl
@[simp] theorem syncStep_crcSeed : (syncStep s).crcSeed = s.crcSeed := rfl
@[simp] theorem syncStep_crcCheck : (syncStep s).crcCheck = s.crcCheck := rfl
@[simp] theorem syncStep_crcLength : (syncStep s).crcLength = s.crcLength := rfl
@[simp] theorem syncStep_autochk : (syncStep s).autochk = s.autochk := rfl
@[simp] theorem syncStep_dmaSar : (syncStep s).dmaSar = s.dmaSar := rfl
@[simp] theorem syncStep_dmaDar : (syncStep s).dmaDar = s.dmaDar := rfl
@[simp] theorem syncStep_dmaCtl : (syncStep s).dmaCtl = s.dmaCtl := rfl
@[simp] theorem syncStep_dmaBlock : (syncStep s).dmaBlock = s.dmaBlock := rfl
@[simp] theorem syncStep_evtEn : (syncStep s).evtEn = s.evtEn := rfl
@[simp] theorem syncStep_indThr : (syncStep s).indThr = s.indThr := rfl
@[simp] theorem syncStep_crcState : (syncStep s).crcState = s.crcState := rfl
@[simp] theorem syncStep_count : (syncStep s).count = s.count := rfl
@[simp] theorem syncStep_resValid : (syncStep s).resValid = s.resValid := rfl
@[simp] theorem syncStep_resMismatch : (syncStep s).resMismatch = s.resMismatch := rfl
@[simp] theorem syncStep_dmaState : (syncStep s).dmaState = s.dmaState := rfl
@[simp] theorem syncStep_curSrc : (syncStep s).curSrc = s.curSrc := rfl
@[simp] theorem syncStep_rem : (syncStep s).rem = s.rem := rfl
@[simp] theorem syncStep_evtRaw : (syncStep s).evtRaw = s.evtRaw := rfl
@[simp] theorem syncStep_flagSrc : (syncStep s).flagSrc = s.flagSrc := rfl
@[simp] theorem syncStep_sync1 : (syncStep s).sync1 = s.flagSrc := rfl
@[simp] theorem syncStep_sync2 : (syncStep s).sync2 = s.sync1 := rfl
@[simp] theorem syncStep_handlerCount : (syncStep s).handlerCount = s.handlerCount := rfl
@[simp] theorem syncStep_indState : (syncStep s).indState = s.indState := rfl
@[simp] theorem syncStep_out : (syncStep s).out = s.out := rfl
@[simp] theorem syncStep_tickCnt : (syncStep s).tickCnt = s.tickCnt := rfl
@[simp] theorem syncStep_hpc : (syncStep s).hpc = s.hpc := rfl
@[simp] theorem syncStep_hostlog : (syncStep s).hostlog = s.hostlog := rfl
@[simp] theorem syncStep_fault : (syncStep s).fault = s.fault := rfl
@[simp] theorem syncStep_params : (syncStep s).params = s.params := rfl
@[simp] theorem syncStep_hostProg : (syncStep s).hostProg = s.hostProg := rfl
@[simp] theorem syncStep_mem : (syncStep s).mem = s.mem := rfl
@[simp] theorem syncStep_sched : (syncStep s).sched = s.sched := rfl
@[simp] theorem syncStep_turn : (syncStep s).turn = s.turn := rfl

/-! `indSee` -/

@[simp] theorem indSee_crcCfg : (indSee s).crcCfg = s.crcCfg := rfl
@[simp] theorem indSee_crcSeed : (indSee s).crcSeed = s.crcSeed := rfl
@[simp] theorem indSee_crcCheck : (indSee s).crcCheck = s.crcCheck := rfl
@[simp] theorem indSee_crcLength : (indSee s).crcLength = s.crcLength := rfl
@[simp] theorem indSee_autochk : (indSee s).autochk = s.autochk := rfl
@[simp] theorem indSee_dmaSar : (indSee s).dmaSar = s.dmaSar := rfl
@[simp] theorem indSee_dmaDar : (indSee s).dmaDar = s.dmaDar := rfl
@[simp] theorem indSee_dmaCtl : (indSee s).dmaCtl = s.dmaCtl := rfl
@[simp] theorem indSee_dmaBlock : (indSee s).dmaBlock = s.dmaBlock := rfl
@[simp] theorem indSee_evtEn : (indSee s).evtEn = s.evtEn := rfl
@[simp] theorem indSee_indThr : (indSee s).indThr = s.indThr := rfl
@[simp] theorem indSee_crcState : (indSee s).crcState = s.crcState := rfl
@[simp] theorem indSee_count : (indSee s).count = s.count := rfl
@[simp] theorem indSee_resValid : (indSee s).resValid = s.resValid := rfl
@[simp] theorem indSee_resMismatch : (indSee s).resMismatch = s.resMismatch := rfl
@[simp] theorem indSee_dmaState : (indSee s).dmaState = s.dmaState := rfl
@[simp] theorem indSee_curSrc : (indSee s).curSrc = s.curSrc := rfl
@[simp] theorem indSee_rem : (indSee s).rem = s.rem := rfl
@[simp] theorem indSee_evtRaw : (indSee s).evtRaw = s.evtRaw := rfl
@[simp] theorem indSee_flagSrc : (indSee s).flagSrc = s.flagSrc := rfl
@[simp] theorem indSee_sync1 : (indSee s).sync1 = s.sync1 := rfl
@[simp] theorem indSee_sync2 : (indSee s).sync2 = s.sync2 := rfl
@[simp] theorem indSee_handlerCount : (indSee s).handlerCount = s.handlerCount := rfl
@[simp] theorem indSee_indState : (indSee s).indState = .checking := rfl
@[simp] theorem indSee_out : (indSee s).out = s.out := rfl
@[simp] theorem indSee_tickCnt : (indSee s).tickCnt = s.tickCnt := rfl
@[simp] theorem indSee_hpc : (indSee s).hpc = s.hpc := rfl
@[simp] theorem indSee_hostlog : (indSee s).hostlog = s.hostlog := rfl
@[simp] theorem indSee_fault : (indSee s).fault = s.fault := rfl
@[simp] theorem indSee_params : (indSee s).params = s.params := rfl
@[simp] theorem indSee_hostProg : (indSee s).hostProg = s.hostProg := rfl
@[simp] theorem indSee_mem : (indSee s).mem = s.mem := rfl
@[simp] theorem indSee_sched : (indSee s).sched = s.sched := rfl
@[simp] theorem indSee_turn : (indSee s).turn = s.turn := rfl

end Sys2Proof.Machine
end

