-- ==== Sys2Proof/Laws/Ops.lean ====
section
/-! SUPPORT. What each shared operation can do, said once: writes, reads, the start, the fold, the word
step, the meanings of all instructions, and the machine's step. -/

namespace Sys2Proof.Machine

/-- A host write raises the first failing check of R78, or performs. -/
theorem hostWrite_cases (r : Reg) (data : Word) (s : State) (f : State → State) :
    (∃ c, writeCheck r data s = some c ∧ hostWrite r data s f = s.raise .host c)
      ∨ (writeCheck r data s = none ∧ hostWrite r data s f = f s) := by
  unfold hostWrite
  cases writeCheck r data s <;> simp

/-- The checks of R78 all pass exactly for a writable, unlocked register without a reserved 1. -/
theorem writeCheck_eq_none (r : Reg) (data : Word) (s : State) :
    writeCheck r data s = none ↔ r.access ≠ .wStar
      ∧ (r.isConfig = true → s.dmaState = .idle) ∧ data &&& r.reserved = 0 := by
  unfold writeCheck State.locked
  split <;> (try split) <;> (try split) <;> simp_all

/-- A read of a stored register completes or is F_UNWRITTEN. -/
theorem readStored_cases (r : Reg) (v : Option Word) (s : State) :
    (v = none ∧ readStored r v s = s.raise .host ⟨.unwritten, .offset r.offset⟩)
      ∨ ∃ w, v = some w ∧ readStored r v s = s.completeRead r w := by
  cases v <;> simp [readStored]

@[simp] theorem written_eq_ok {α : Type} (r : Reg) (v : Option α) (w : α) :
    written r v = .ok w ↔ v = some w := by
  cases v <;> simp [written]

/-- DMA_START's operands are there exactly when all eight registers are written (R131). -/
theorem startOperands_eq_ok (s : State) (o : StartOperands) :
    startOperands s = .ok o ↔ s.dmaSar = some o.sar ∧ s.dmaDar = some o.dar
      ∧ s.dmaCtl = some o.ctl ∧ s.dmaBlock = some o.block ∧ s.crcLength = some o.length
      ∧ s.crcCfg.isSome = true ∧ s.crcSeed.isSome = true ∧ s.crcCheck.isSome = true := by
  obtain ⟨sar, dar, ctl, block, length⟩ := o
  unfold startOperands
  cases s.dmaSar <;> cases s.dmaDar <;> cases s.dmaCtl <;> cases s.dmaBlock <;> cases s.crcCfg
    <;> cases s.crcSeed <;> cases s.crcCheck <;> cases s.crcLength
    <;> simp [written, bind, Except.bind]

/-- What an accepted DMA_START does (R131). -/
theorem startTransfer_eq_ok (s t : State) :
    startTransfer s = .ok t ↔ s.dmaState = .idle ∧ ∃ o, startOperands s = .ok o
      ∧ descriptorCheck s.params o = none
      ∧ t = State.advance { s with dmaState := .busy, curSrc := o.sar, rem := o.block } := by
  unfold startTransfer
  split
  · simp_all
  · cases h : startOperands s with
    | error c => simp [bind, Except.bind]
    | ok o =>
      simp only [bind, Except.bind, Except.ok.injEq, exists_eq_left']
      next hi =>
      have hi : s.dmaState = .idle := by simpa using hi
      cases descriptorCheck s.params o with
      | none => simp [hi, eq_comm]
      | some c => simp

/-- `s` after the fold of `w` and before the latch (40_crc.md R106). -/
def State.folded (s : State) (cfg : CrcCfg) (c0 w : Word) : State :=
  { s with
    crcState := some (crc32Step c0 (din s.params.refinGranularity cfg w))
    count := s.count + 1 }

/-- A latch leaves the state, or fixes the result at the last word (R106, R109). -/
theorem latchResult_cases (cfg : CrcCfg) (c : Word) (s t : State) (h : latchResult cfg c s = .ok t) :
    (∃ check, s.autochk = true ∧ s.crcLength = some s.count ∧ s.crcCheck = some check
        ∧ t = { s with resMismatch := crcFinal cfg c != check, resValid := true })
      ∨ ((s.autochk = false ∨ s.crcLength ≠ some s.count) ∧ t = s) := by
  unfold latchResult at h
  split at h
  · next ha =>
    cases hl : s.crcLength with
    | none => simp [hl, written, bind, Except.bind] at h
    | some len =>
      simp only [hl, written, bind, Except.bind] at h
      split at h
      · next hc =>
        cases hk : s.crcCheck with
        | none => simp [hk] at h
        | some check =>
          simp only [hk, Except.ok.injEq] at h
          exact .inl ⟨check, ha, by rw [hc], rfl, h.symm⟩
      · next hc =>
        simp only [Except.ok.injEq] at h
        exact .inr ⟨.inr (by simpa using Ne.symm hc), h.symm⟩
  · next ha =>
    simp only [Except.ok.injEq] at h
    exact .inr ⟨.inl (by simpa using ha), h.symm⟩

/-- A fold that raises nothing folds the word and then latches (R106). -/
theorem crcFold_ok (w : Word) (s t : State) (h : crcFold w s = .ok t) :
    ∃ cfg c0, s.crcCfg = some cfg ∧ s.crcState = some c0
      ∧ latchResult cfg (crc32Step c0 (din s.params.refinGranularity cfg w))
          (s.folded cfg c0 w) = .ok t := by
  unfold crcFold at h
  cases ho : overrunCheck s with
  | error c => simp [ho, bind, Except.bind] at h
  | ok u =>
    cases hc : s.crcCfg with
    | none => simp [ho, hc, written, bind, Except.bind] at h
    | some cfg =>
      cases h0 : s.crcState with
      | none => simp [ho, hc, h0, written, bind, Except.bind] at h
      | some c0 =>
        refine ⟨cfg, c0, rfl, rfl, ?_⟩
        simp only [ho, written, bind, Except.bind, hc, h0] at h
        rw [← h]
        unfold State.folded
        rw [hc]

/-- The end of a word step counts on, or ends the transfer (41_dma.md R135, R136). -/
theorem finishWord_cases (s t : State) (h : finishWord s = .ok t) :
    (s.rem ≠ 0 ∧ t = s) ∨ ∃ ctl, s.rem = 0 ∧ s.dmaCtl = some ctl
      ∧ t = { s with dmaState := .done, evtRaw := s.evtRaw || ctl.intEn } := by
  unfold finishWord at h
  split at h
  · next hr =>
    cases hc : s.dmaCtl with
    | none => simp [hc, written, bind, Except.bind] at h
    | some ctl =>
      simp only [hc, written, bind, Except.bind, Except.ok.injEq] at h
      exact .inr ⟨ctl, hr, rfl, h.symm⟩
  · next hr =>
    simp only [Except.ok.injEq] at h
    exact .inl ⟨hr, h.symm⟩

/-- A word step that raises nothing reads, folds and counts (41_dma.md R135). -/
theorem dmaWord_ok (s t : State) (h : dmaWord s = .ok t) :
    ∃ w u, s.mem.readWord s.curSrc = some w ∧ crcFold w s = .ok u
      ∧ finishWord { u with curSrc := u.curSrc + 4, rem := u.rem - 1 } = .ok t := by
  unfold dmaWord at h
  cases hm : s.mem.readWord s.curSrc with
  | none => simp [hm] at h
  | some w =>
    cases hf : crcFold w s with
    | error c => simp [hm, hf, bind, Except.bind] at h
    | ok u => exact ⟨w, u, rfl, hf, by simpa [hm, hf, bind, Except.bind] using h⟩

/-- A DMA step is a word moved or a fault over the state as it was. -/
theorem dmaStep_cases (s : State) :
    (∃ t, dmaWord s = .ok t ∧ dmaStep s = t)
      ∨ ∃ c, dmaWord s = .error c ∧ dmaStep s = s.raise .dma c := by
  unfold dmaStep State.settle
  cases dmaWord s <;> simp

/-- What a configuration write stores: the registers it names and nothing else (R91 to R99, R121 to R129,
R182). -/
def State.store (s : State) : Instr → State
  | .wrCrcCfg d => { s with crcCfg := some (CrcCfg.ofData d) }
  | .wrCrcSeed d =>
    { s with
      crcSeed := some d
      crcState := some d
      count := 0
      resValid := false
      resMismatch := false }
  | .wrCrcCheck d => { s with crcCheck := some d }
  | .wrCrcLength d => { s with crcLength := some d }
  | .wrCrcCtrl d => { s with autochk := d.getLsbD 0 }
  | .wrDmaSar d => { s with dmaSar := some d }
  | .wrDmaDar d => { s with dmaDar := some d }
  | .wrDmaCtl d => { s with dmaCtl := some (DmaCtl.ofData d) }
  | .wrDmaBlock d => { s with dmaBlock := some (d.extractLsb' 0 16) }
  | .wrDmaEvten d => { s with evtEn := d.getLsbD 0 }
  | .wrIndThr d => { s with indThr := d }
  | _ => s

/-- EVERY host instruction answers a next state, of one of four shapes: a fault record over the state as it
was; a completed read; an advance over a stored configuration write of an IDLE machine (or over GO = 0,
which stores nothing); or an accepted DMA_START. -/
theorem exec_cases (i : Instr) (s : State) :
    (∃ c, exec i s = .next (s.raise .host c))
      ∨ (∃ r v, exec i s = .next (s.completeRead r v))
      ∨ (exec i s = .next (s.store i).advance ∧ (i.reg.isConfig = true → s.dmaState = .idle)
          ∧ (i.reg = .indThr → i.operand ≠ 0) ∧ i.operand &&& i.reg.reserved = 0)
      ∨ (∃ t, startTransfer s = .ok t ∧ exec i s = .next t) := by
  have wr : ∀ (r : Reg) (d : Word) (f : State → State),
      (∃ c, hostWrite r d s f = s.raise .host c) ∨ (hostWrite r d s f = f s
        ∧ (r.isConfig = true → s.dmaState = .idle) ∧ d &&& r.reserved = 0 ∧ r.access ≠ .wStar) := by
    intro r d f
    rcases hostWrite_cases r d s f with ⟨c, _, h⟩ | ⟨hc, h⟩
    · exact .inl ⟨c, h⟩
    · have := (writeCheck_eq_none r d s).mp hc
      exact .inr ⟨h, this.2.1, this.2.2, this.1⟩
  have rd : ∀ (r : Reg) (v : Option Word),
      (∃ c, readStored r v s = s.raise .host c) ∨ ∃ w, readStored r v s = s.completeRead r w := by
    intro r v
    rcases readStored_cases r v s with ⟨_, h⟩ | ⟨w, _, h⟩
    · exact .inl ⟨_, h⟩
    · exact .inr ⟨w, h⟩
  have store : ∀ (j : Instr) (r : Reg) (d : Word) (f : State → State),
      exec j s = .next (hostWrite r d s f) → j.reg = r → j.operand = d → r ≠ .indThr →
      f s = (s.store j).advance → (∃ c, exec j s = .next (s.raise .host c))
      ∨ (∃ r v, exec j s = .next (s.completeRead r v))
      ∨ (exec j s = .next (s.store j).advance ∧ (j.reg.isConfig = true → s.dmaState = .idle)
          ∧ (j.reg = .indThr → j.operand ≠ 0) ∧ j.operand &&& j.reg.reserved = 0)
      ∨ (∃ t, startTransfer s = .ok t ∧ exec j s = .next t) := by
    intro j r d f he hr hd hne hf
    rcases wr r d f with ⟨c, h⟩ | ⟨h, h1, h2, _⟩
    · exact .inl ⟨c, by rw [he, h]⟩
    · exact .inr (.inr (.inl ⟨by rw [he, h, hf], hr ▸ h1, fun e => absurd (hr ▸ e) hne, by
        rw [hd, hr]; exact h2⟩))
  have load : ∀ (j : Instr) (r : Reg) (v : Option Word), exec j s = .next (readStored r v s) →
      (∃ c, exec j s = .next (s.raise .host c)) ∨ (∃ r v, exec j s = .next (s.completeRead r v)) := by
    intro j r v he
    rcases rd r v with ⟨c, h⟩ | ⟨w, h⟩
    · exact .inl ⟨c, by rw [he, h]⟩
    · exact .inr ⟨r, w, by rw [he, h]⟩
  have star : ∀ (j : Instr) (r : Reg) (d : Word) (f : State → State),
      exec j s = .next (hostWrite r d s f) → r.access = .wStar →
      ∃ c, exec j s = .next (s.raise .host c) := by
    intro j r d f he hr
    rcases wr r d f with ⟨c, h⟩ | ⟨_, _, _, h⟩
    · exact ⟨c, by rw [he, h]⟩
    · exact absurd hr h
  cases i with
  | wrCrcCfg d => exact store _ .crcCfg d _ rfl rfl rfl (by decide) rfl
  | wrCrcSeed d => exact store _ .crcSeed d _ rfl rfl rfl (by decide) rfl
  | wrCrcCheck d => exact store _ .crcCheck d _ rfl rfl rfl (by decide) rfl
  | wrCrcLength d => exact store _ .crcLength d _ rfl rfl rfl (by decide) rfl
  | wrCrcCtrl d => exact store _ .crcCtrl d _ rfl rfl rfl (by decide) rfl
  | wrDmaSar d => exact store _ .dmaSar d _ rfl rfl rfl (by decide) rfl
  | wrDmaDar d => exact store _ .dmaDar d _ rfl rfl rfl (by decide) rfl
  | wrDmaCtl d => exact store _ .dmaCtl d _ rfl rfl rfl (by decide) rfl
  | wrDmaBlock d => exact store _ .dmaBlock d _ rfl rfl rfl (by decide) rfl
  | wrDmaEvten d => exact store _ .dmaEvten d _ rfl rfl rfl (by decide) rfl
  | wrCrcIr d => exact .inl (star _ .crcIr d _ rfl rfl)
  | wrDmaEvtclr d => exact .inl (star _ .dmaEvtclr d _ rfl rfl)
  | wrSyncSet d => exact .inl (star _ .syncSet d _ rfl rfl)
  | wrIndThr d =>
    rcases wr .indThr d (fun t => if d = 0 then t.raise .host ⟨.threshold, .offset Reg.indThr.offset⟩
        else State.advance { t with indThr := d }) with ⟨c, h⟩ | ⟨h, h1, h2, _⟩
    · exact .inl ⟨c, congrArg _ h⟩
    · by_cases hd : d = 0
      · exact .inl ⟨_, congrArg _ (h.trans (if_pos hd))⟩
      · exact .inr (.inr (.inl ⟨congrArg _ (h.trans (if_neg hd)), h1, fun _ => hd, h2⟩))
  | wrDmaStart d =>
    rcases wr .dmaStart d (fun t => if d.getLsbD 0 then t.settle .host (startTransfer t)
        else t.advance) with ⟨c, h⟩ | ⟨h, h1, h2, _⟩
    · exact .inl ⟨c, congrArg _ h⟩
    · by_cases hd : d.getLsbD 0 = true
      · rw [if_pos hd] at h
        cases hs : startTransfer s with
        | ok t =>
          rw [hs] at h
          exact .inr (.inr (.inr ⟨t, rfl, congrArg _ h⟩))
        | error c =>
          rw [hs] at h
          exact .inl ⟨c, congrArg _ h⟩
      · rw [if_neg hd] at h
        exact .inr (.inr (.inl ⟨congrArg _ h, h1, by simp [Instr.reg], h2⟩))
  | rdCrcSts =>
    by_cases h : s.resultReadable = true
    · exact .inr (.inl ⟨.crcSts, _, congrArg _ (if_pos h)⟩)
    · exact .inl ⟨_, congrArg _ (if_neg h)⟩
  | rdSyncSts =>
    by_cases h : s.dmaState = .idle
    · exact .inl ⟨_, congrArg _ (if_pos h)⟩
    · exact .inr (.inl ⟨.syncSts, _, congrArg _ (if_neg h)⟩)
  | rdCrcCtrl => exact .inr (.inl ⟨_, _, rfl⟩)
  | rdCrcCnt => exact .inr (.inl ⟨_, _, rfl⟩)
  | rdDmaEvten => exact .inr (.inl ⟨_, _, rfl⟩)
  | rdDmaSts => exact .inr (.inl ⟨_, _, rfl⟩)
  | rdDmaRem => exact .inr (.inl ⟨_, _, rfl⟩)
  | rdIndSts => exact .inr (.inl ⟨_, _, rfl⟩)
  | rdIndTcnt => exact .inr (.inl ⟨_, _, rfl⟩)
  | rdIndThr => exact .inr (.inl ⟨_, _, rfl⟩)
  | rdCrcCfg => exact (load _ .crcCfg _ rfl).imp_right .inl
  | rdCrcSeed => exact (load _ .crcSeed _ rfl).imp_right .inl
  | rdCrcCheck => exact (load _ .crcCheck _ rfl).imp_right .inl
  | rdCrcLength => exact (load _ .crcLength _ rfl).imp_right .inl
  | rdCrcRes => exact (load _ .crcRes _ rfl).imp_right .inl
  | rdDmaSar => exact (load _ .dmaSar _ rfl).imp_right .inl
  | rdDmaDar => exact (load _ .dmaDar _ rfl).imp_right .inl
  | rdDmaCtl => exact (load _ .dmaCtl _ rfl).imp_right .inl
  | rdDmaBlock => exact (load _ .dmaBlock _ rfl).imp_right .inl

end Sys2Proof.Machine
end

