-- ==== Sys2Proof/Laws/PerInstr.lean ====
section
/-! SUPPORT. The shape of every instruction's op word (spec/30_encoding.md R71, R82): one lemma per
constructor. -/

namespace Sys2Proof.Laws.OpWordShape

open Machine

/-- R71 and R82: `Z` and `OFF_HI` are 0, the offset is word-aligned and is the register's, and bit 15 says
that a data word follows. -/
def Statement (i : Instr) : Prop :=
  i.opWord.extractLsb' 10 5 = 0 ∧ i.opWord.extractLsb' 0 2 = 0
    ∧ i.opWord.extractLsb' 0 12 = i.reg.offset ∧ i.opWord.getLsbD 15 = i.dataWord.isSome

theorem wrCrcCfg (data : Word) : Statement (.wrCrcCfg data) := by
  simp [Statement, Instr.opWord, Instr.dataWord, Instr.reg, Reg.offset]

theorem rdCrcCfg : Statement .rdCrcCfg := by
  simp [Statement, Instr.opWord, Instr.dataWord, Instr.reg, Reg.offset]

theorem wrCrcSeed (data : Word) : Statement (.wrCrcSeed data) := by
  simp [Statement, Instr.opWord, Instr.dataWord, Instr.reg, Reg.offset]

theorem rdCrcSeed : Statement .rdCrcSeed := by
  simp [Statement, Instr.opWord, Instr.dataWord, Instr.reg, Reg.offset]

theorem wrCrcCheck (data : Word) : Statement (.wrCrcCheck data) := by
  simp [Statement, Instr.opWord, Instr.dataWord, Instr.reg, Reg.offset]

theorem rdCrcCheck : Statement .rdCrcCheck := by
  simp [Statement, Instr.opWord, Instr.dataWord, Instr.reg, Reg.offset]

theorem wrCrcLength (data : Word) : Statement (.wrCrcLength data) := by
  simp [Statement, Instr.opWord, Instr.dataWord, Instr.reg, Reg.offset]

theorem rdCrcLength : Statement .rdCrcLength := by
  simp [Statement, Instr.opWord, Instr.dataWord, Instr.reg, Reg.offset]

theorem wrCrcCtrl (data : Word) : Statement (.wrCrcCtrl data) := by
  simp [Statement, Instr.opWord, Instr.dataWord, Instr.reg, Reg.offset]

theorem rdCrcCtrl : Statement .rdCrcCtrl := by
  simp [Statement, Instr.opWord, Instr.dataWord, Instr.reg, Reg.offset]

theorem wrCrcIr (data : Word) : Statement (.wrCrcIr data) := by
  simp [Statement, Instr.opWord, Instr.dataWord, Instr.reg, Reg.offset]

theorem rdCrcSts : Statement .rdCrcSts := by
  simp [Statement, Instr.opWord, Instr.dataWord, Instr.reg, Reg.offset]

theorem rdCrcRes : Statement .rdCrcRes := by
  simp [Statement, Instr.opWord, Instr.dataWord, Instr.reg, Reg.offset]

theorem rdCrcCnt : Statement .rdCrcCnt := by
  simp [Statement, Instr.opWord, Instr.dataWord, Instr.reg, Reg.offset]

theorem wrDmaSar (data : Word) : Statement (.wrDmaSar data) := by
  simp [Statement, Instr.opWord, Instr.dataWord, Instr.reg, Reg.offset]

theorem rdDmaSar : Statement .rdDmaSar := by
  simp [Statement, Instr.opWord, Instr.dataWord, Instr.reg, Reg.offset]

theorem wrDmaDar (data : Word) : Statement (.wrDmaDar data) := by
  simp [Statement, Instr.opWord, Instr.dataWord, Instr.reg, Reg.offset]

theorem rdDmaDar : Statement .rdDmaDar := by
  simp [Statement, Instr.opWord, Instr.dataWord, Instr.reg, Reg.offset]

theorem wrDmaCtl (data : Word) : Statement (.wrDmaCtl data) := by
  simp [Statement, Instr.opWord, Instr.dataWord, Instr.reg, Reg.offset]

theorem rdDmaCtl : Statement .rdDmaCtl := by
  simp [Statement, Instr.opWord, Instr.dataWord, Instr.reg, Reg.offset]

theorem wrDmaBlock (data : Word) : Statement (.wrDmaBlock data) := by
  simp [Statement, Instr.opWord, Instr.dataWord, Instr.reg, Reg.offset]

theorem rdDmaBlock : Statement .rdDmaBlock := by
  simp [Statement, Instr.opWord, Instr.dataWord, Instr.reg, Reg.offset]

theorem wrDmaEvten (data : Word) : Statement (.wrDmaEvten data) := by
  simp [Statement, Instr.opWord, Instr.dataWord, Instr.reg, Reg.offset]

theorem rdDmaEvten : Statement .rdDmaEvten := by
  simp [Statement, Instr.opWord, Instr.dataWord, Instr.reg, Reg.offset]

theorem wrDmaStart (data : Word) : Statement (.wrDmaStart data) := by
  simp [Statement, Instr.opWord, Instr.dataWord, Instr.reg, Reg.offset]

theorem rdDmaSts : Statement .rdDmaSts := by
  simp [Statement, Instr.opWord, Instr.dataWord, Instr.reg, Reg.offset]

theorem wrDmaEvtclr (data : Word) : Statement (.wrDmaEvtclr data) := by
  simp [Statement, Instr.opWord, Instr.dataWord, Instr.reg, Reg.offset]

theorem rdDmaRem : Statement .rdDmaRem := by
  simp [Statement, Instr.opWord, Instr.dataWord, Instr.reg, Reg.offset]

theorem wrSyncSet (data : Word) : Statement (.wrSyncSet data) := by
  simp [Statement, Instr.opWord, Instr.dataWord, Instr.reg, Reg.offset]

theorem rdSyncSts : Statement .rdSyncSts := by
  simp [Statement, Instr.opWord, Instr.dataWord, Instr.reg, Reg.offset]

theorem rdIndSts : Statement .rdIndSts := by
  simp [Statement, Instr.opWord, Instr.dataWord, Instr.reg, Reg.offset]

theorem rdIndTcnt : Statement .rdIndTcnt := by
  simp [Statement, Instr.opWord, Instr.dataWord, Instr.reg, Reg.offset]

theorem wrIndThr (data : Word) : Statement (.wrIndThr data) := by
  simp [Statement, Instr.opWord, Instr.dataWord, Instr.reg, Reg.offset]

theorem rdIndThr : Statement .rdIndThr := by
  simp [Statement, Instr.opWord, Instr.dataWord, Instr.reg, Reg.offset]

end Sys2Proof.Laws.OpWordShape
end

