-- ==== Sys2Proof/Laws/Step.lean ====
section
/-! SUPPORT. Inversion of the machine's step: who moves, and what its step can be; and what the block's CRC
and the acceptance of a descriptor depend on. -/

namespace Sys2Proof.Machine

theorem Agent.mem_all (a : Agent) : a ∈ Agent.all := by cases a <;> decide

theorem mem_enabledAgents (s : State) (a : Agent) : a ∈ s.enabledAgents ↔ s.enabled a = true := by
  simp [State.enabledAgents, Agent.mem_all]

theorem enabled_fault (s : State) (a : Agent) (h : s.enabled a = true) : s.fault = none := by
  simp only [State.enabled, Bool.and_eq_true, Option.isNone_iff_eq_none] at h
  exact h.1

@[simp] theorem nextTurn_enabled (s : State) (a : Agent) : s.nextTurn.enabled a = s.enabled a := rfl

@[simp] theorem nextTurn_nextOp (s : State) : s.nextTurn.nextOp = s.nextOp := rfl

/-- A free choice is one of the agents offered. -/
theorem freeChoice_mem (n : Nat) (as : List Agent) (a : Agent) (h : freeChoice n as = some a) :
    a ∈ as := List.mem_of_getElem? h

/-- A free choice among some agents is made. -/
theorem freeChoice_isSome (n : Nat) (a : Agent) (as : List Agent) :
    (freeChoice n (a :: as)).isSome = true := by
  have : Config.arbiter n % (a :: as).length < (a :: as).length := Nat.mod_lt _ (by simp)
  unfold freeChoice
  rw [List.getElem?_eq_getElem this]
  rfl

/-- Only an enabled agent moves (60_exceptions.md R204). -/
theorem chooseAgent_enabled (s : State) (a : Agent) (h : s.chooseAgent = some a) :
    s.enabled a = true := by
  unfold State.chooseAgent at h
  split at h
  · simp at h
  · next b hb =>
    obtain rfl : b = a := by simpa using h
    exact (mem_enabledAgents s b).mp (by simp [hb])
  · next b c as hb =>
    split at h
    · exact (mem_enabledAgents s a).mp (hb ▸ freeChoice_mem _ _ _ h)
    · split at h
      · next hc => simp only [Option.some.injEq] at h; exact h ▸ hc
      · exact (mem_enabledAgents s a).mp (hb ▸ freeChoice_mem _ _ _ h)

/-- No agent moves exactly where none is enabled. -/
theorem chooseAgent_eq_none (s : State) : s.chooseAgent = none ↔ s.enabledAgents = [] := by
  unfold State.chooseAgent
  split
  · simp [*]
  · simp [*]
  · next b c as hb =>
    have hf := freeChoice_isSome s.turn b (c :: as)
    split
    · simp only [hb, reduceCtorEq, iff_false]; intro h; simp [h] at hf
    · split
      · simp [hb]
      · simp only [hb, reduceCtorEq, iff_false]; intro h; simp [h] at hf

/-- EVERYTHING A STEP CAN DO: a faulted machine has none; else it stays as it is with no agent enabled, or
one enabled agent moves. -/
theorem step_cases (s t : State) (h : step s = .next t) :
    s.fault = none ∧ ((s.enabledAgents = [] ∧ t = s)
      ∨ ∃ a, s.chooseAgent = some a ∧ s.enabled a = true ∧ agentStep a s.nextTurn = .next t) := by
  unfold step machineStep at h
  split at h
  · simp at h
  · next hf =>
    refine ⟨hf, ?_⟩
    split at h
    · next hc =>
      simp only [Host.Outcome.next.injEq] at h
      exact .inl ⟨(chooseAgent_eq_none s).mp hc, h.symm⟩
    · next a ha => exact .inr ⟨a, ha, chooseAgent_enabled s a ha, h⟩

/-- HOST's step, where an element of its program is left: WAITFLAG, a decoded operation, or F_ACCESS. -/
theorem hostStep_cases (s t : State) (op : HostOp) (hop : s.nextOp = some op)
    (h : hostStep s = .next t) :
    (op = .waitflag ∧ t = waitflagStep s) ∨ (∃ i, exec i s = .next t)
      ∨ ∃ o, t = s.raise .host ⟨.access, .opWord o⟩ := by
  have acc : ∀ o d, hostAccess o d s = .next t →
      (∃ i, exec i s = .next t) ∨ ∃ o, t = s.raise .host ⟨.access, .opWord o⟩ := by
    intro o d h
    unfold hostAccess at h
    split at h
    · exact .inl ⟨_, h⟩
    · simp only [Host.Outcome.next.injEq] at h
      exact .inr ⟨o, h.symm⟩
  unfold hostStep at h
  rw [hop] at h
  cases op with
  | waitflag => simp only [Host.Outcome.next.injEq] at h; exact .inl ⟨rfl, h.symm⟩
  | wr a d => exact .inr (acc _ _ h)
  | rd a => exact .inr (acc _ _ h)

/-- With all its operands written, the block's CRC is `crcOfBlock` of them. -/
theorem blockCrc_of_written (s : State) (n : Nat) (seed sar : Word) (cfg : CrcCfg)
    (h1 : s.crcSeed = some seed) (h2 : s.crcCfg = some cfg) (h3 : s.dmaSar = some sar) :
    s.blockCrc n = crcOfBlock s.params.refinGranularity cfg s.mem sar seed n := by
  cases n <;> simp [State.blockCrc, h1, h2, h3, crcOfBlock]

/-- One more word of a block (40_crc.md R106). -/
theorem crcOfBlock_succ (g : Granularity) (cfg : CrcCfg) (m : Memory) (sar seed c w : Word) (n : Nat)
    (hc : crcOfBlock g cfg m sar seed n = some c) (hw : blockWord m sar n = some w) :
    crcOfBlock g cfg m sar seed (n + 1) = some (crc32Step c (din g cfg w)) := by
  simp [crcOfBlock, hc, hw]

/-- The acceptance of a descriptor depends on the eight registers of R131 and the parameters only. -/
theorem accepted_congr (s t : State) (h1 : t.dmaSar = s.dmaSar) (h2 : t.dmaDar = s.dmaDar)
    (h3 : t.dmaCtl = s.dmaCtl) (h4 : t.dmaBlock = s.dmaBlock) (h5 : t.crcCfg = s.crcCfg)
    (h6 : t.crcSeed = s.crcSeed) (h7 : t.crcCheck = s.crcCheck) (h8 : t.crcLength = s.crcLength)
    (h9 : t.params = s.params) : t.accepted = s.accepted := by
  simp only [State.accepted, startOperands, h1, h2, h3, h4, h5, h6, h7, h8, h9]

/-- Acceptance, opened: all eight registers are written and no descriptor check fails. -/
theorem accepted_iff (s : State) :
    s.accepted = true ↔ ∃ o, startOperands s = .ok o ∧ descriptorCheck s.params o = none := by
  unfold State.accepted
  split
  · next o h => simp [h]
  · next c h => simp [h]

/-- Every descriptor check, opened (41_dma.md R131). -/
theorem descriptorCheck_eq_none (p : Params) (o : StartOperands) :
    descriptorCheck p o = none ↔ o.ctl.width = 2 ∧ o.ctl.tt = 0 ∧ o.block ≠ 0
      ∧ o.block.toNat ≤ p.maxBlockSize ∧ o.dar = Params.crcIrAddr p ∧ o.sar.extractLsb' 0 2 = 0
      ∧ o.sar.toNat + 4 * o.block.toNat ≤ 2 ^ 32 ∧ meetsWindow p o = false
      ∧ o.block.setWidth 32 = o.length := by
  unfold descriptorCheck
  by_cases hb : o.block = 0 ∨ p.maxBlockSize < o.block.toNat
  · have hb' : ¬(o.block ≠ 0 ∧ o.block.toNat ≤ p.maxBlockSize) := by
      rintro ⟨h0, h1⟩
      rcases hb with hb | hb
      · exact h0 hb
      · omega
    rw [if_pos hb]
    split_ifs <;> simp only [false_iff] <;> exact fun h => hb' ⟨h.2.2.1, h.2.2.2.1⟩
  · have hb' : o.block ≠ 0 ∧ o.block.toNat ≤ p.maxBlockSize := by
      push Not at hb
      exact hb
    rw [if_neg hb]
    split_ifs <;> simp_all

end Sys2Proof.Machine
end

