-- ==== Sys2Proof/Tests/Slice0.lean ====
section
/-! SUPPORT. Tests, with expected values from spec/ (95_test_vectors.md where a vector is named), and a
witness for every obligation that has hypotheses, clause by clause at the ends of its ranges. -/

namespace Sys2Proof.Tests

open Sys2Proof.Machine Sys2Proof.Expected

/-- The next state an outcome holds. -/
def after (o : Host.Outcome State Fault Refusal) : Option State :=
  match o with
  | .next t => some t
  | .fault _ => none
  | .refused _ => none

/-- The log entry and the index after an instruction, which show a completed read. -/
def readBack (i : Instr) (s : State) : Option (List LogEntry × Nat × Option FaultRecord) :=
  (after (exec i s)).map fun t => (t.hostlog, t.hpc, t.fault)

/-- The fault an instruction records. -/
def faultOf (i : Instr) (s : State) : Option FaultRecord := (after (exec i s)).bind (·.fault)

/-- One read completed at index 0. -/
def logged (off : Offset) (v : Word) : Option (List LogEntry × Nat × Option FaultRecord) :=
  some ([⟨0, off, v⟩], 1, none)

/-- A fault of HOST at index 0. -/
def hostRecord (c : FaultCode) (i : FaultInfo) : Option FaultRecord := some ⟨c, .host, 0, i⟩

/-- The launch memory of 95_test_vectors.md, its first 16 bytes: the words 1, 2, 3, 4 at 0x20000000. -/
def p1Mem : Memory :=
  [(0x20000000, 1), (0x20000001, 0), (0x20000002, 0), (0x20000003, 0)]
  ++ [(0x20000004, 2), (0x20000005, 0), (0x20000006, 0), (0x20000007, 0)]
  ++ [(0x20000008, 3), (0x20000009, 0), (0x2000000A, 0), (0x2000000B, 0)]
  ++ [(0x2000000C, 4), (0x2000000D, 0), (0x2000000E, 0), (0x2000000F, 0)]

/-- The configuration of program P1 (95_test_vectors.md section 7), with an empty host program. -/
def configured : State :=
  { State.reset with
    crcCfg := some ⟨true, true, true⟩
    crcSeed := some 0xFFFFFFFF
    crcState := some 0xFFFFFFFF
    crcCheck := some 0xAF05D4EF
    crcLength := some 4
    autochk := true
    dmaSar := some 0x20000000
    dmaDar := some 0x40000014
    dmaCtl := some ⟨2, 0, 0, true⟩
    dmaBlock := some 4
    evtEn := true
    mem := p1Mem }

/-- P1 just after DMA_START (D1). -/
def busy : State := { configured with dmaState := .busy, curSrc := 0x20000000, rem := 4 }

/-- P1 before its last word: three words folded (95_test_vectors.md section 2.3). -/
def lastWord : State :=
  { busy with crcState := some 0x36BBF8F2, count := 3, curSrc := 0x2000000C, rem := 1 }

/-- P1 after its last word. -/
def transferred : State :=
  { busy with
    crcState := some 0x08D45F0A
    count := 4
    curSrc := 0x20000010
    rem := 0
    dmaState := .done
    evtRaw := true
    resValid := true }

/-- The hang of program P4: the event is pending and EN = 0. -/
def masked : State := { transferred with evtEn := false }

/-- P1 after HANDLER's step. -/
def flagged : State := { transferred with evtRaw := false, flagSrc := true, handlerCount := 1 }

/-- P1 after the first SYNC step. -/
def halfVisible : State := { flagged with sync1 := true }

/-- P1 with the flag visible. -/
def visible : State := { halfVisible with sync2 := true }

/-- P1 in CHECKING. -/
def checking : State := { visible with indState := .checking }

/-- P1's end state, but for the host program. -/
def verified : State := { checking with indState := .verified, out := true }

/-- P2's settled state: one bit of CRC_CHECK off, THR = 3. -/
def blinking : State :=
  { checking with
    crcCheck := some 0xAF05D4EE, indThr := 3, resMismatch := true, indState := .mismatchBlink }

/-- A block of one word, its CRC from section 2.1's row w = 1, with HOST finished. -/
def oneWord : State :=
  { busy with crcCheck := some 0x99F8B879, crcLength := some 1, dmaBlock := some 1, rem := 1 }

/-! ## Well-formedness -/

/-- R28: an instruction with a reserved 1 is refused, per register that has reserved bits. -/
theorem test_wf_refuses_reserved_bits :
    Instr.wf (.wrCrcCfg 8) = false ∧ Instr.wf (.wrCrcCtrl 2) = false
      ∧ Instr.wf (.wrDmaCtl 8) = false ∧ Instr.wf (.wrDmaCtl 0x400) = false
      ∧ Instr.wf (.wrDmaBlock 0x10000) = false ∧ Instr.wf (.wrDmaEvten 2) = false
      ∧ Instr.wf (.wrDmaStart 3) = false ∧ Instr.wf (.wrCrcCfg 7) = true
      ∧ Instr.wf (.wrDmaCtl 0x1072) = true ∧ Instr.wf (.wrCrcSeed 0xFFFFFFFF) = true := by decide

/-- R9: a base that is not word-aligned, and a window that wraps past 2^32, are refused. -/
theorem test_wf_refuses_params :
    Params.wf { Config.defaultParams with blockBase := 0x40000002 } = false
      ∧ Params.wf { Config.defaultParams with blockBase := 0xFFFFFC04 } = false
      ∧ Params.wf { Config.defaultParams with blockBase := 0xFFFFFC00 } = true
      ∧ Params.wf Config.defaultParams = true := by decide

/-- The canonical form of memory refuses a repeat, a fall, and an address past 2^32. -/
theorem test_wf_refuses_memory :
    Memory.wf [(4, 1), (4, 2)] = false ∧ Memory.wf [(5, 1), (4, 2)] = false
      ∧ Memory.wf [(2 ^ 32, 1)] = false ∧ Memory.wf p1Mem = true := by decide

/-! ## Decoding: every op word, bit by bit from R71's fields and R27's offsets -/

theorem test_decode_crc_writes :
    decode (1#1 ++ 0#3 ++ 0#2 ++ 0b0000000000#10) 7 = .ok (.wrCrcCfg 7)
      ∧ decode (1#1 ++ 0#3 ++ 0#2 ++ 0b0000000100#10) 7 = .ok (.wrCrcSeed 7)
      ∧ decode (1#1 ++ 0#3 ++ 0#2 ++ 0b0000001000#10) 7 = .ok (.wrCrcCheck 7)
      ∧ decode (1#1 ++ 0#3 ++ 0#2 ++ 0b0000001100#10) 7 = .ok (.wrCrcLength 7)
      ∧ decode (1#1 ++ 0#3 ++ 0#2 ++ 0b0000010000#10) 1 = .ok (.wrCrcCtrl 1)
      ∧ decode (1#1 ++ 0#3 ++ 0#2 ++ 0b0000010100#10) 7 = .ok (.wrCrcIr 7) :=
  ⟨rfl, rfl, rfl, rfl, rfl, rfl⟩

theorem test_decode_crc_reads :
    decode (0#1 ++ 0#3 ++ 0#2 ++ 0b0000000000#10) 0 = .ok .rdCrcCfg
      ∧ decode (0#1 ++ 0#3 ++ 0#2 ++ 0b0000000100#10) 0 = .ok .rdCrcSeed
      ∧ decode (0#1 ++ 0#3 ++ 0#2 ++ 0b0000001000#10) 0 = .ok .rdCrcCheck
      ∧ decode (0#1 ++ 0#3 ++ 0#2 ++ 0b0000001100#10) 0 = .ok .rdCrcLength
      ∧ decode (0#1 ++ 0#3 ++ 0#2 ++ 0b0000010000#10) 0 = .ok .rdCrcCtrl
      ∧ decode (0#1 ++ 0#3 ++ 0#2 ++ 0b0000011000#10) 0 = .ok .rdCrcSts
      ∧ decode (0#1 ++ 0#3 ++ 0#2 ++ 0b0000011100#10) 0 = .ok .rdCrcRes
      ∧ decode (0#1 ++ 0#3 ++ 0#2 ++ 0b0000100000#10) 0 = .ok .rdCrcCnt :=
  ⟨rfl, rfl, rfl, rfl, rfl, rfl, rfl, rfl⟩

theorem test_decode_dma_writes :
    decode (1#1 ++ 0#3 ++ 0#2 ++ 0b0100000000#10) 7 = .ok (.wrDmaSar 7)
      ∧ decode (1#1 ++ 0#3 ++ 0#2 ++ 0b0100000100#10) 7 = .ok (.wrDmaDar 7)
      ∧ decode (1#1 ++ 0#3 ++ 0#2 ++ 0b0100001000#10) 2 = .ok (.wrDmaCtl 2)
      ∧ decode (1#1 ++ 0#3 ++ 0#2 ++ 0b0100001100#10) 7 = .ok (.wrDmaBlock 7)
      ∧ decode (1#1 ++ 0#3 ++ 0#2 ++ 0b0100010000#10) 1 = .ok (.wrDmaEvten 1)
      ∧ decode (1#1 ++ 0#3 ++ 0#2 ++ 0b0100010100#10) 1 = .ok (.wrDmaStart 1)
      ∧ decode (1#1 ++ 0#3 ++ 0#2 ++ 0b0100011100#10) 1 = .ok (.wrDmaEvtclr 1) :=
  ⟨rfl, rfl, rfl, rfl, rfl, rfl, rfl⟩

theorem test_decode_dma_reads :
    decode (0#1 ++ 0#3 ++ 0#2 ++ 0b0100000000#10) 0 = .ok .rdDmaSar
      ∧ decode (0#1 ++ 0#3 ++ 0#2 ++ 0b0100000100#10) 0 = .ok .rdDmaDar
      ∧ decode (0#1 ++ 0#3 ++ 0#2 ++ 0b0100001000#10) 0 = .ok .rdDmaCtl
      ∧ decode (0#1 ++ 0#3 ++ 0#2 ++ 0b0100001100#10) 0 = .ok .rdDmaBlock
      ∧ decode (0#1 ++ 0#3 ++ 0#2 ++ 0b0100010000#10) 0 = .ok .rdDmaEvten
      ∧ decode (0#1 ++ 0#3 ++ 0#2 ++ 0b0100011000#10) 0 = .ok .rdDmaSts
      ∧ decode (0#1 ++ 0#3 ++ 0#2 ++ 0b0100100000#10) 0 = .ok .rdDmaRem :=
  ⟨rfl, rfl, rfl, rfl, rfl, rfl, rfl⟩

theorem test_decode_sync_and_indicator :
    decode (1#1 ++ 0#3 ++ 0#2 ++ 0b1000000000#10) 1 = .ok (.wrSyncSet 1)
      ∧ decode (0#1 ++ 0#3 ++ 0#2 ++ 0b1000000100#10) 0 = .ok .rdSyncSts
      ∧ decode (0#1 ++ 0#3 ++ 0#2 ++ 0b1100000000#10) 0 = .ok .rdIndSts
      ∧ decode (0#1 ++ 0#3 ++ 0#2 ++ 0b1100000100#10) 0 = .ok .rdIndTcnt
      ∧ decode (1#1 ++ 0#3 ++ 0#2 ++ 0b1100001000#10) 3 = .ok (.wrIndThr 3)
      ∧ decode (0#1 ++ 0#3 ++ 0#2 ++ 0b1100001000#10) 0 = .ok .rdIndThr :=
  ⟨rfl, rfl, rfl, rfl, rfl, rfl⟩

/-- 95_test_vectors.md section 6, the F_ACCESS rows. -/
theorem test_decode_rejects :
    decode 0x0014 0 = .error .readOfWriteOnly ∧ decode 0x8018 0 = .error .writeOfReadOnly
      ∧ decode 0x0002 0 = .error .misaligned ∧ decode 0x1000 0 = .error .reservedZ
      ∧ decode 0x0400 0 = .error .unmapped ∧ decode 0x0024 0 = .error .unmapped
      ∧ decode 0x0124 0 = .error .unmapped ∧ decode 0xFFFF 0 = .error .reservedZ
      ∧ decode 0x0114 0 = .error .readOfWriteOnly :=
  ⟨rfl, rfl, rfl, rfl, rfl, rfl, rfl, rfl, rfl⟩

/-- The table's numbering: op word in bits 15:0, data word in bits 47:16 (spec/opcode_table.json). -/
theorem test_table_words :
    decodeTableWord 48 0x000000058000 = some (.wrCrcCfg 5)
      ∧ decodeTableWord 16 0x0018 = some .rdCrcSts
      ∧ decodeTableWord 16 0x8114 = some (.wrDmaStart 0) ∧ decodeTableWord 16 0x1000 = none := by
  decide

/-- A placed word is what the next step from reset runs (D2, V2). -/
theorem test_placed_words_run :
    (after (step (State.reset.withFetchWord 48 0x000000058000))).map (·.crcCfg)
        = some (some ⟨true, false, true⟩)
      ∧ (after (step (State.reset.withFetchWord 16 0x0010))).map (·.hostlog)
        = some [⟨0, 0x010, 0⟩] := by
  decide

/-! ## The CRC unit (95_test_vectors.md sections 2.1 to 2.4) -/

/-- V1, V6, V7: reserved, stored. -/
theorem test_wr_crc_cfg :
    (after (exec (.wrCrcCfg 5) State.reset)).map (·.crcCfg) = some (some ⟨true, false, true⟩)
      ∧ faultOf (.wrCrcCfg 8) State.reset = hostRecord .reserved (.offsetData 0x000 8) := by decide

theorem test_rd_crc_cfg :
    faultOf .rdCrcCfg State.reset = hostRecord .unwritten (.offset 0x000)
      ∧ readBack .rdCrcCfg { State.reset with crcCfg := some ⟨true, false, true⟩ } = logged 0x000 5 := by
  decide

/-- R93: the seed write also clears the count and the result. -/
theorem test_wr_crc_seed :
    (after (exec (.wrCrcSeed 0xFFFFFFFF) { transferred with dmaState := .idle })).map
        (fun t => (t.crcSeed, t.crcState, t.count, t.resValid))
      = some (some 0xFFFFFFFF, some 0xFFFFFFFF, 0, false) := by decide

/-- V13: the seed, not the running state. -/
theorem test_rd_crc_seed : readBack .rdCrcSeed transferred = logged 0x004 0xFFFFFFFF := by decide

/-- V12. -/
theorem test_wr_crc_check :
    faultOf (.wrCrcCheck 0) busy = hostRecord .locked (.offset 0x008)
      ∧ (after (exec (.wrCrcCheck 0x99F69CD9) State.reset)).map (·.crcCheck)
        = some (some 0x99F69CD9) := by decide

theorem test_rd_crc_check : readBack .rdCrcCheck configured = logged 0x008 0xAF05D4EF := by decide

theorem test_wr_crc_length :
    (after (exec (.wrCrcLength 256) State.reset)).map (·.crcLength) = some (some 256) := by decide

theorem test_rd_crc_length : readBack .rdCrcLength configured = logged 0x00C 4 := by decide

/-- V8, and section 6's last row: the lock comes before the reserved bits. -/
theorem test_wr_crc_ctrl :
    faultOf (.wrCrcCtrl 2) State.reset = hostRecord .reserved (.offsetData 0x010 2)
      ∧ faultOf (.wrCrcCtrl 2) busy = hostRecord .locked (.offset 0x010)
      ∧ (after (exec (.wrCrcCtrl 1) State.reset)).map (·.autochk) = some true := by decide

/-- V2. -/
theorem test_rd_crc_ctrl :
    readBack .rdCrcCtrl State.reset = logged 0x010 0 ∧ readBack .rdCrcCtrl busy = logged 0x010 1 := by
  decide

/-- V9. -/
theorem test_wr_crc_ir :
    faultOf (.wrCrcIr 0) State.reset = hostRecord .writer (.offset 0x014)
      ∧ (after (exec (.wrCrcIr 0) State.reset)).map (·.crcState) = some none := by decide

/-- V5, V16 and program P2's read. -/
theorem test_rd_crc_sts :
    faultOf .rdCrcSts State.reset = hostRecord .undefResult (.countBit 0 false)
      ∧ faultOf .rdCrcSts transferred = hostRecord .undefResult (.countBit 4 false)
      ∧ readBack .rdCrcSts visible = logged 0x018 0
      ∧ readBack .rdCrcSts blinking = logged 0x018 1 := by decide

/-- V4, V10, V11 and P1's read. -/
theorem test_rd_crc_res :
    faultOf .rdCrcRes State.reset = hostRecord .unwritten (.offset 0x01C)
      ∧ readBack .rdCrcRes configured = logged 0x01C 0
      ∧ readBack .rdCrcRes { configured with crcCfg := some ⟨false, false, false⟩ }
        = logged 0x01C 0xFFFFFFFF
      ∧ readBack .rdCrcRes transferred = logged 0x01C 0xAF05D4EF := by decide +kernel

/-- V3, V14. -/
theorem test_rd_crc_cnt :
    readBack .rdCrcCnt State.reset = logged 0x020 0
      ∧ readBack .rdCrcCnt transferred = logged 0x020 4 := by decide

/-- Section 2.1: one fold from seed 0xFFFFFFFF, and from 0. -/
theorem test_fold_vectors :
    crc32Step 0xFFFFFFFF (din .word32 ⟨true, true, true⟩ 0x12345678) = 0xB41E490A
      ∧ crc32Step 0xFFFFFFFF (din .byte ⟨true, true, true⟩ 0x12345678) = 0xE68F6FAD
      ∧ crc32Step 0xFFFFFFFF (din .word32 ⟨false, true, true⟩ 0xDEADBEEF) = 0x81DA1A18
      ∧ crc32Step 0 (din .word32 ⟨false, false, false⟩ 1) = 0x04C11DB7 := by decide +kernel

/-- Section 2.2: the final value of 0x12345678 under each pair of options. -/
theorem test_final_vectors :
    crcFinal ⟨false, false, false⟩ 0x12345678 = 0x12345678
      ∧ crcFinal ⟨false, false, true⟩ 0x12345678 = 0xEDCBA987
      ∧ crcFinal ⟨false, true, false⟩ 0x12345678 = 0x1E6A2C48
      ∧ crcFinal ⟨false, true, true⟩ 0x12345678 = 0xE195D3B7 := by decide +kernel

/-- Section 2.3: the bytes of "12345678" under both granularities and the plain configurations. -/
theorem test_block_vectors :
    crcFinal ⟨true, true, true⟩ (foldWords .word32 ⟨true, true, true⟩ [0x34333231, 0x38373635])
        = 0x9AE0DAAF
      ∧ crcFinal ⟨true, true, true⟩ (foldWords .byte ⟨true, true, true⟩ [0x34333231, 0x38373635])
        = 0xE3C97CBC
      ∧ crcFinal ⟨false, false, false⟩
          (foldWords .word32 ⟨false, false, false⟩ [0x31323334, 0x35363738]) = 0x49E3C2FB
      ∧ crcFinal ⟨false, false, true⟩
          (foldWords .byte ⟨false, false, true⟩ [0x31323334, 0x35363738]) = 0xB61C3D04 := by
  decide +kernel

/-! ## The DMA engine (95_test_vectors.md section 3) -/

theorem test_wr_dma_sar :
    (after (exec (.wrDmaSar 0x20000002) State.reset)).map (·.dmaSar) = some (some 0x20000002) := by
  decide

/-- D23; the value does not advance during a run (R122). -/
theorem test_rd_dma_sar :
    faultOf .rdDmaSar State.reset = hostRecord .unwritten (.offset 0x100)
      ∧ readBack .rdDmaSar transferred = logged 0x100 0x20000000 := by decide

theorem test_wr_dma_dar :
    (after (exec (.wrDmaDar 0x40000014) State.reset)).map (·.dmaDar) = some (some 0x40000014)
      ∧ faultOf (.wrDmaDar 0) busy = hostRecord .locked (.offset 0x104) := by decide

theorem test_rd_dma_dar : readBack .rdDmaDar busy = logged 0x104 0x40000014 := by decide

/-- D19 and D21. -/
theorem test_wr_dma_ctl :
    faultOf (.wrDmaCtl 8) State.reset = hostRecord .reserved (.offsetData 0x108 8)
      ∧ (after (exec (.wrDmaCtl 0x1072) State.reset)).map (·.dmaCtl)
        = some (some ⟨2, 7, 0, true⟩) := by decide

theorem test_rd_dma_ctl :
    readBack .rdDmaCtl { State.reset with dmaCtl := some ⟨2, 7, 0, true⟩ } = logged 0x108 0x1072
      ∧ readBack .rdDmaCtl { State.reset with dmaCtl := some ⟨1, 0, 3, false⟩ } = logged 0x108 0x301 := by
  decide

/-- D20. -/
theorem test_wr_dma_block :
    faultOf (.wrDmaBlock 0x10000) State.reset = hostRecord .reserved (.offsetData 0x10C 0x10000)
      ∧ (after (exec (.wrDmaBlock 0xFFFF) State.reset)).map (·.dmaBlock) = some (some 0xFFFF) := by
  decide

theorem test_rd_dma_block : readBack .rdDmaBlock transferred = logged 0x10C 4 := by decide

theorem test_wr_dma_evten :
    (after (exec (.wrDmaEvten 1) State.reset)).map (·.evtEn) = some true
      ∧ faultOf (.wrDmaEvten 2) State.reset = hostRecord .reserved (.offsetData 0x110 2) := by decide

/-- D22. -/
theorem test_rd_dma_evten : readBack .rdDmaEvten State.reset = logged 0x110 0 := by decide

/-- D1 to D6. -/
theorem test_wr_dma_start :
    (after (exec (.wrDmaStart 1) configured)).map (fun t => (t.dmaState, t.curSrc, t.rem))
        = some (.busy, 0x20000000, 4)
      ∧ after (exec (.wrDmaStart 0) configured) = some { configured with hpc := 1 }
      ∧ faultOf (.wrDmaStart 3) configured = hostRecord .reserved (.offsetData 0x114 3)
      ∧ faultOf (.wrDmaStart 1) busy = hostRecord .restart (.dmaState .busy)
      ∧ faultOf (.wrDmaStart 1) { configured with dmaSar := none }
        = hostRecord .unwritten (.register .dmaSar)
      ∧ faultOf (.wrDmaStart 1) { configured with crcCheck := none }
        = hostRecord .unwritten (.register .crcCheck) := by decide

/-- D7 to D17. -/
theorem test_wr_dma_start_descriptor :
    faultOf (.wrDmaStart 1) { configured with dmaCtl := some ⟨1, 0, 0, true⟩ }
        = hostRecord .desc (.value 1)
      ∧ faultOf (.wrDmaStart 1) { configured with dmaCtl := some ⟨2, 0, 1, true⟩ }
        = hostRecord .desc (.value 1)
      ∧ faultOf (.wrDmaStart 1) { configured with dmaBlock := some 0, crcLength := some 0 }
        = hostRecord .desc (.value 0)
      ∧ faultOf (.wrDmaStart 1) { configured with dmaBlock := some 4096, crcLength := some 4096 }
        = hostRecord .desc (.value 4096)
      ∧ faultOf (.wrDmaStart 1) { configured with dmaDar := some 0x40000018 }
        = hostRecord .desc (.value 0x40000018)
      ∧ faultOf (.wrDmaStart 1) { configured with dmaSar := some 0x20000002 }
        = hostRecord .desc (.value 0x20000002)
      ∧ faultOf (.wrDmaStart 1)
          { configured with dmaSar := some 0xFFFFFFF0, dmaBlock := some 5, crcLength := some 5 }
        = hostRecord .desc (.value 0xFFFFFFF0)
      ∧ faultOf (.wrDmaStart 1) { configured with dmaSar := some 0xFFFFFFF0 } = none
      ∧ faultOf (.wrDmaStart 1)
          { configured with dmaSar := some 0x3FFFFFFC, dmaBlock := some 2, crcLength := some 2 }
        = hostRecord .desc (.value 0x3FFFFFFC)
      ∧ faultOf (.wrDmaStart 1) { configured with crcLength := some 5 }
        = hostRecord .length (.lengths 4 5) := by decide

/-- The DMA_STS table of section 3. -/
theorem test_rd_dma_sts :
    [State.reset, busy, transferred, flagged, masked].map (readBack .rdDmaSts)
      = [0, 1, 0x32, 2, 0x12].map (logged 0x118) := by decide

/-- D24. -/
theorem test_wr_dma_evtclr :
    faultOf (.wrDmaEvtclr 1) transferred = hostRecord .writer (.offset 0x11C) := by decide

theorem test_rd_dma_rem :
    readBack .rdDmaRem State.reset = logged 0x120 0 ∧ readBack .rdDmaRem busy = logged 0x120 4 := by
  decide

/-- D26 and D27: the first and the last word step of P1. -/
theorem test_dma_word_steps :
    ((dmaStep busy).curSrc, (dmaStep busy).rem, (dmaStep busy).crcState, (dmaStep busy).count)
        = (0x20000004, 3, some 0x61E2E066, 1)
      ∧ dmaStep lastWord = transferred := by decide +kernel

/-- D18: a byte that is not admitted is F_MEM of DMA, with nothing else changed. -/
theorem test_dma_unadmitted :
    dmaStep { busy with curSrc := 0x20001000 }
      = { busy with curSrc := 0x20001000, fault := some ⟨.mem, .dma, 0, .address 0x20001000⟩ } := by
  decide

/-! ## The handler, the synchronizer and the indicator (95_test_vectors.md sections 4 and 5) -/

/-- S9. -/
theorem test_wr_sync_set :
    faultOf (.wrSyncSet 1) busy = hostRecord .writer (.offset 0x200) := by decide

/-- S5, S7, S8. -/
theorem test_rd_sync_sts :
    faultOf .rdSyncSts State.reset = hostRecord .order (.offset 0x204)
      ∧ readBack .rdSyncSts busy = logged 0x204 0 ∧ readBack .rdSyncSts halfVisible = logged 0x204 0
      ∧ readBack .rdSyncSts visible = logged 0x204 1 := by decide

/-- S1 to S3. -/
theorem test_handler_and_sync :
    handlerStep transferred = flagged ∧ syncStep flagged = halfVisible
      ∧ syncStep halfVisible = visible ∧ visible.enabled .sync = false := by decide

/-- S6 and S10. -/
theorem test_waitflag :
    hostStep { configured with hostProg := [.waitflag] }
        = .next { configured with hostProg := [.waitflag], fault := some ⟨.order, .host, 0, .waitflag⟩ }
      ∧ { flagged with hostProg := [.waitflag] }.enabled .host = false
      ∧ hostStep { visible with hostProg := [.waitflag] }
        = .next { visible with hostProg := [.waitflag], hpc := 1 } := ⟨rfl, rfl, rfl⟩

/-- I1 to I5. -/
theorem test_indicator_steps :
    halfVisible.enabled .ind = false ∧ indStep visible = checking ∧ indStep checking = verified
      ∧ indStep { blinking with indState := .checking, tickCnt := 7 } = blinking
      ∧ (indStep { checking with resValid := false }).fault
        = some ⟨.undefResult, .ind, 0, .countBit 4 true⟩ := by decide

/-- Section 5's trace for THR = 3: (count, output) after 1, 2 and 3 ticks, and after 6. -/
theorem test_ticks :
    ((tickStep blinking).tickCnt, (tickStep blinking).out) = (1, false)
      ∧ ((tickStep^[2] blinking).tickCnt, (tickStep^[2] blinking).out) = (2, false)
      ∧ ((tickStep^[3] blinking).tickCnt, (tickStep^[3] blinking).out) = (0, true)
      ∧ ((tickStep^[6] blinking).tickCnt, (tickStep^[6] blinking).out) = (0, false) := by decide

/-- R184's four words. -/
theorem test_rd_ind_sts :
    readBack .rdIndSts State.reset = logged 0x300 0 ∧ readBack .rdIndSts verified = logged 0x300 0x12
      ∧ readBack .rdIndSts blinking = logged 0x300 0x23
      ∧ readBack .rdIndSts { blinking with out := true } = logged 0x300 0x33 := by decide

theorem test_rd_ind_tcnt :
    readBack .rdIndTcnt { blinking with tickCnt := 2 } = logged 0x304 2 := by decide

/-- I7, I9. -/
theorem test_wr_ind_thr :
    faultOf (.wrIndThr 0) State.reset = hostRecord .threshold (.offset 0x308)
      ∧ faultOf (.wrIndThr 3) busy = hostRecord .locked (.offset 0x308)
      ∧ (after (exec (.wrIndThr 3) State.reset)).map (·.indThr) = some 3 := by decide

/-- I8. -/
theorem test_rd_ind_thr : readBack .rdIndThr State.reset = logged 0x308 0x1F4 := by decide

/-- R180 under both polarities, and R185's example: 500 ticks of 1 ms toggle every 500 ms. -/
theorem test_pin_and_blink_time :
    verified.pin = true
      ∧ { verified with params := { verified.params with indActiveLow := true } }.pin = false
      ∧ State.reset.toggleTime = 500000 ∧ State.reset.blinkPeriod = 1000000 := by decide

/-! ## Witnesses: for every obligation with hypotheses, a state and operands that meet them -/

/-- A host program of one operation on a state, HOST to move. -/
def withProg (s : State) (op : HostOp) : State := { s with hostProg := [op] }

theorem witness_LegalOpWords :
    0x0024 ∉ (opTable 0).map Prod.fst ∧ 0x8018 ∉ (opTable 0).map Prod.fst
      ∧ 0x030C ∉ (opTable 0).map Prod.fst ∧ 0xFFFF ∉ (opTable 0).map Prod.fst
      ∧ (0x8308, Instr.wrIndThr 0) ∈ opTable 0 := by decide

theorem witness_EncodeDecodeAgree :
    decode 0x8308 0xFFFFFFFF = .ok (.wrIndThr 0xFFFFFFFF) ∧ decode 0x0000 0 = .ok .rdCrcCfg :=
  ⟨rfl, rfl⟩

theorem witness_StepRunsDecodedInstruction :
    (withProg State.reset (HostOp.ofWords 0x8000 5)).fault = none
      ∧ (withProg State.reset (HostOp.ofWords 0x8000 5)).chooseAgent = some .host
      ∧ (withProg State.reset (HostOp.ofWords 0x8000 5)).hostProg[0]? = some (HostOp.ofWords 0x8000 5)
      ∧ decode 0x8000 5 = .ok (.wrCrcCfg 5) := ⟨rfl, by decide, rfl, rfl⟩

theorem witness_WaitflagFollowsR158 :
    ((withProg configured .waitflag).fault = none ∧ configured.dmaState = .idle)
      ∧ (busy.dmaState ≠ .idle ∧ busy.sync2 = false)
      ∧ (visible.dmaState ≠ .idle ∧ visible.sync2 = true)
      ∧ (withProg visible .waitflag).hostProg[0]? = some .waitflag := by decide

theorem witness_AnyEnabledAgentMayMove :
    busy.chooseAgent = some .dma ∧ busy.enabled .dma = true
      ∧ { withProg busy .waitflag with sched := [.tick, .dma] }.enabled .dma = true := by decide

theorem witness_FaultHaltsMachine :
    ∃ t r, step (withProg State.reset (.rd 0x018)) = .next t ∧ t.fault = some r
      ∧ step t = .fault (.halted r) := ⟨_, _, rfl, rfl, rfl⟩

/-- A faulting step of HOST, of DMA and of IND. -/
theorem witness_FaultRecordContents :
    (∃ t, step (withProg State.reset (.rd 0x018)) = .next t
        ∧ t.fault = some ⟨.undefResult, .host, 0, .countBit 0 false⟩)
      ∧ (∃ t, step { busy with mem := [] } = .next t
        ∧ t.fault = some ⟨.mem, .dma, 0, .address 0x20000000⟩)
      ∧ ∃ t, step { checking with resValid := false } = .next t
        ∧ t.fault = some ⟨.undefResult, .ind, 0, .countBit 4 true⟩ :=
  ⟨⟨_, rfl, rfl⟩, ⟨_, rfl, rfl⟩, ⟨_, rfl, rfl⟩⟩

/-- R213 items (a), (b) and (c), and HOST holding at WAITFLAG. -/
theorem witness_AcceptedHangsStay :
    ({ transferred with dmaCtl := some ⟨2, 0, 0, false⟩, evtRaw := false }.dmaState ≠ .busy)
      ∧ (masked.fault = none ∧ masked.dmaState ≠ .busy ∧ masked.evtEn = false ∧ masked.flagSrc = false
        ∧ masked.sync1 = false ∧ masked.sync2 = false ∧ masked.indState = .waiting
        ∧ masked.hostProg.length ≤ masked.hpc)
      ∧ ((withProg masked .waitflag).hostProg[0]? = some .waitflag ∧ masked.dmaState = .done)
      ∧ (configured.dmaState ≠ .busy ∧ configured.evtRaw = false ∧ configured.flagSrc = false
        ∧ configured.hostProg.length ≤ configured.hpc) := by decide

theorem witness_EndsOfARun :
    (verified.fault = none ∧ verified.indState = .verified ∧ verified.hpc = verified.hostProg.length
        ∧ verified.dmaState = .done ∧ verified.evtRaw = false ∧ verified.sync1 = true
        ∧ verified.sync2 = true ∧ verified.flagSrc = true)
      ∧ (blinking.fault = none ∧ blinking.indState = .mismatchBlink
        ∧ blinking.hpc = blinking.hostProg.length ∧ blinking.dmaState = .done
        ∧ blinking.evtRaw = false ∧ blinking.sync1 = true ∧ blinking.sync2 = true
        ∧ blinking.flagSrc = true)
      ∧ State.reset.enabledAgents = [] := by decide

theorem witness_WrCrcCfg :
    busy.dmaState ≠ .idle ∧ State.reset.dmaState = .idle ∧ 8 ≤ (8 : Word).toNat
      ∧ (7 : Word).toNat < 8 := by decide

theorem witness_WrCrcSeed : busy.dmaState ≠ .idle ∧ State.reset.dmaState = .idle := by decide

/-- A length of 0, and one above MAX_BLOCK_SIZE by 1. -/
theorem witness_WrCrcCheckAndLength :
    busy.dmaState ≠ .idle ∧ State.reset.dmaState = .idle
      ∧ ({ configured with crcLength := some 0 }.crcLength = some 0 ∧ (0 : Word).toNat = 0)
      ∧ ({ configured with crcLength := some 4096 }.crcLength = some 4096
        ∧ configured.params.maxBlockSize < (4096 : Word).toNat)
      ∧ (1 : Word).getLsbD 0 = true := by decide

theorem witness_WrCrcCtrl :
    busy.dmaState ≠ .idle ∧ State.reset.dmaState = .idle ∧ 2 ≤ (2 : Word).toNat
      ∧ (1 : Word).toNat < 2
      ∧ { busy with autochk := false }.autochk = false := by decide

theorem witness_WrCrcCtrl_fold : ∃ t, crcFold 1 { busy with autochk := false } = .ok t := ⟨_, rfl⟩

theorem witness_RdCrcConfiguration :
    (State.reset.crcCfg = none ∧ State.reset.crcSeed = none ∧ State.reset.crcCheck = none
        ∧ State.reset.crcLength = none)
      ∧ (configured.crcCfg = some ⟨true, true, true⟩ ∧ configured.crcSeed = some 0xFFFFFFFF
        ∧ configured.crcCheck = some 0xAF05D4EF ∧ configured.crcLength = some 4) := by decide

theorem witness_RdCrcSts :
    visible.resValid = true ∧ visible.sync2 = true ∧ transferred.sync2 = false
      ∧ State.reset.resValid = false := by decide

theorem witness_RdCrcRes :
    State.reset.crcCfg = none ∧ State.reset.crcState = none
      ∧ configured.crcCfg = some ⟨true, true, true⟩ ∧ configured.crcState = some 0xFFFFFFFF := by decide

theorem witness_WrDmaSarAndDar : busy.dmaState ≠ .idle ∧ configured.dmaState = .idle := by decide

/-- The lowest and the highest reserved bit, and the highest value without one. -/
theorem witness_WrDmaCtl :
    busy.dmaState ≠ .idle ∧ configured.dmaState = .idle ∧ (0x8 : Word) &&& 0xFFFFEC88 ≠ 0
      ∧ (0x80000000 : Word) &&& 0xFFFFEC88 ≠ 0 ∧ (0x1377 : Word) &&& 0xFFFFEC88 = 0 := by decide

theorem witness_WrDmaBlockAndEvten :
    busy.dmaState ≠ .idle ∧ configured.dmaState = .idle ∧ 2 ^ 16 ≤ (0x10000 : Word).toNat
      ∧ (0xFFFF : Word).toNat < 2 ^ 16 ∧ 2 ≤ (2 : Word).toNat ∧ (1 : Word).toNat < 2 := by decide

/-- Every clause of the rule: reserved, GO = 0, restart, the last register of the list, and the checks. -/
theorem witness_DmaStartFollowsR131 :
    2 ≤ (2 : Word).toNat ∧ (0 : Word).toNat = 0 ∧ (1 : Word).toNat = 1 ∧ transferred.dmaState ≠ .idle
      ∧ configured.dmaState = .idle
      ∧ firstUnwritten { configured with crcLength := none } = some .crcLength
      ∧ firstUnwritten State.reset = some .dmaSar
      ∧ (firstUnwritten configured = none ∧ configured.dmaSar = some 0x20000000
        ∧ configured.dmaDar = some 0x40000014 ∧ configured.dmaCtl = some ⟨2, 0, 0, true⟩
        ∧ configured.dmaBlock = some 4 ∧ configured.crcLength = some 4) := by decide

/-- D14: the block that ends at 2^32 exactly, and one that ends where the window begins. -/
theorem witness_DmaStartAccepts :
    (configured.dmaState = .idle ∧ configured.dmaDar = some (configured.params.blockBase + 0x014)
        ∧ configured.dmaCtl = some ⟨2, 0, 0, true⟩ ∧ configured.dmaBlock = some 4
        ∧ configured.crcLength = some ((4 : BitVec 16).setWidth 32) ∧ configured.crcCfg ≠ none
        ∧ configured.crcSeed ≠ none ∧ configured.crcCheck ≠ none)
      ∧ (0 < (4 : BitVec 16).toNat ∧ (4 : BitVec 16).toNat ≤ configured.params.maxBlockSize)
      ∧ ((0xFFFFFFF0 : Word).toNat % 4 = 0 ∧ (0xFFFFFFF0 : Word).toNat + 4 * 4 ≤ 2 ^ 32
        ∧ configured.params.blockBase.toNat + 0x400 ≤ (0xFFFFFFF0 : Word).toNat)
      ∧ (0x3FFFFFF0 : Word).toNat + 4 * 4 ≤ configured.params.blockBase.toNat := by decide

theorem witness_RdDmaDescriptor :
    (State.reset.dmaSar = none ∧ State.reset.dmaDar = none ∧ State.reset.dmaCtl = none
        ∧ State.reset.dmaBlock = none)
      ∧ (configured.dmaSar = some 0x20000000 ∧ configured.dmaDar = some 0x40000014
        ∧ configured.dmaCtl = some ⟨2, 0, 0, true⟩ ∧ configured.dmaBlock = some 4) := by decide

theorem witness_RdSyncSts : configured.dmaState = .idle ∧ busy.dmaState ≠ .idle := by decide

theorem witness_WrIndThr :
    busy.dmaState ≠ .idle ∧ configured.dmaState = .idle ∧ (0 : Word).toNat = 0
      ∧ 0 < (1 : Word).toNat := by decide

theorem witness_LockedConfiguration :
    busy.dmaState ≠ .idle ∧ Instr.dataWord (.wrIndThr 0) = some 0
      ∧ Instr.reg (.wrIndThr 0) = .indThr := by decide

theorem witness_ReservedBits :
    (Instr.dataWord (.wrCrcCfg 8) = some 8 ∧ Reg.access .crcCfg ≠ .wStar
        ∧ State.reset.dmaState = .idle ∧ (8 : Word) &&& Reg.reserved .crcCfg ≠ 0)
      ∧ ((Reg.isConfig .dmaStart = true → busy.dmaState = .idle)
        ∧ (2 : Word) &&& Reg.reserved .dmaStart ≠ 0)
      ∧ ∃ t, isRead .rdDmaSts ∧ exec .rdDmaSts transferred = .next t
        ∧ t.hostlog = transferred.hostlog ++ [⟨0, 0x118, 0x32⟩] :=
  ⟨by decide, by decide, _, rfl, rfl, rfl⟩

theorem witness_ReadsHaveNoSideEffects :
    ∃ t, isRead .rdIndThr ∧ exec .rdIndThr State.reset = .next t
      ∧ t = readDone State.reset Reg.indThr.offset 500 := ⟨_, rfl, rfl, rfl⟩

/-- A write that completes, a read that completes, and a write that faults. -/
theorem witness_HostInstructionFrame :
    (∃ t, exec (.wrCrcSeed 1) State.reset = .next t) ∧ (∃ t, exec .rdIndThr State.reset = .next t)
      ∧ ∃ t, exec (.wrCrcIr 1) State.reset = .next t := ⟨⟨_, rfl⟩, ⟨_, rfl⟩, ⟨_, rfl⟩⟩

theorem witness_ConfigurationWritesCommute :
    State.reset.dmaState = .idle ∧ Instr.reg (.wrCrcSeed 1) ≠ Instr.reg (.wrIndThr 1)
      ∧ Reg.isConfig .crcSeed = true ∧ Reg.isConfig .indThr = true
      ∧ Instr.dataWord (.wrCrcSeed 1) ≠ none ∧ Instr.dataWord (.wrIndThr 1) ≠ none
      ∧ Instr.wf (.wrCrcSeed 1) = true ∧ Instr.wf (.wrIndThr 1) = true
      ∧ Instr.wrCrcSeed 1 ≠ .wrIndThr 0 ∧ Instr.wrIndThr 1 ≠ .wrIndThr 0 := by decide

/-- F_MEM at the first byte past the block, F_OVERRUN at count = LENGTH, and the last word of P1. -/
theorem witness_DmaWordStep :
    busy.fault = none ∧ p1Mem.readWord 0x20000010 = none
      ∧ (p1Mem.readWord 0x2000000C = some 4 ∧ transferred.autochk = true
        ∧ transferred.crcLength = some 4 ∧ (4 : Word).toNat ≤ transferred.count.toNat)
      ∧ (lastWord.mem.readWord lastWord.curSrc = some 4 ∧ lastWord.crcCfg = some ⟨true, true, true⟩
        ∧ lastWord.crcState = some 0x36BBF8F2 ∧ lastWord.crcLength = some 4
        ∧ lastWord.crcCheck = some 0xAF05D4EF ∧ lastWord.dmaCtl = some ⟨2, 0, 0, true⟩
        ∧ lastWord.count.toNat < (4 : Word).toNat) := by decide

/-- A word whose second byte is at address 0 after the wrap, too. -/
theorem witness_MemReadLittleEndian :
    (p1Mem.readByte (0x20000004 : Word).toNat = some 2
        ∧ p1Mem.readByte ((0x20000004 : Word) + 1).toNat = some 0
        ∧ p1Mem.readByte ((0x20000004 : Word) + 2).toNat = some 0
        ∧ p1Mem.readByte ((0x20000004 : Word) + 3).toNat = some 0)
      ∧ Memory.readWord [(0, 2), (1, 3), (2, 4), (0xFFFFFFFF, 1)] 0xFFFFFFFF = some 0x04030201 := by
  decide

theorem witness_HandlerStep :
    transferred.fault = none ∧ transferred.evtRaw = true ∧ transferred.evtEn = true := by decide

theorem witness_SyncStep :
    flagged.fault = none ∧ flagged.sync1 ≠ flagged.flagSrc
      ∧ halfVisible.sync2 ≠ halfVisible.sync1 := by decide

theorem witness_IndicatorSteps :
    (visible.fault = none ∧ visible.indState = .waiting ∧ visible.sync2 = true)
      ∧ (checking.indState = .checking ∧ checking.resValid = true ∧ checking.resMismatch = false)
      ∧ { checking with resValid := false }.resValid = false
      ∧ ({ checking with resMismatch := true }.resValid = true
        ∧ { checking with resMismatch := true }.resMismatch = true) := by decide

theorem witness_TickStep :
    blinking.fault = none ∧ blinking.indState = .mismatchBlink
      ∧ { blinking with tickCnt := 2 }.tickCnt + 1 = blinking.indThr
      ∧ { blinking with tickCnt := 1 }.tickCnt + 1 ≠ blinking.indThr := by decide

theorem witness_TickerAfterTicks :
    (blinking.indThr ≠ 0 ∧ blinking.tickCnt = 0 ∧ blinking.out = false)
      ∧ { blinking with tickCnt := 2 }.tickCnt.toNat < blinking.indThr.toNat := by decide

/-- Both transitions of the indicator that a run takes, and both of the engine. -/
theorem witness_IndicatorTransitions :
    step visible = .next { checking with turn := 1 }
      ∧ step checking = .next { verified with turn := 1 } := ⟨rfl, rfl⟩

theorem witness_EngineTransitions :
    (∃ t, step (withProg configured (.wr 0x114 1)) = .next t ∧ t.dmaState = .busy)
      ∧ (∃ t, step lastWord = .next t ∧ t.dmaState = .done)
      ∧ busy.dmaState = .busy ∧ transferred.dmaState = .done :=
  ⟨⟨_, rfl, rfl⟩, ⟨_, rfl, rfl⟩, rfl, rfl⟩

theorem witness_EventOnlyAtLastWord :
    (lastWord.evtRaw = false ∧ ∃ t, step lastWord = .next t ∧ t.evtRaw = true)
      ∧ lastWord.rem = 1 ∧ lastWord.dmaCtl = some ⟨2, 0, 0, true⟩
      ∧ ∃ t, dmaWord lastWord = .ok t := ⟨⟨rfl, _, rfl, rfl⟩, rfl, rfl, _, rfl⟩

/-- One step of each agent. -/
theorem witness_SingleWriters :
    (State.reset.withFetchWord 16 0).chooseAgent = some .host
      ∧ busy.chooseAgent = some .dma ∧ transferred.chooseAgent = some .handler
      ∧ flagged.chooseAgent = some .sync ∧ visible.chooseAgent = some .ind
      ∧ blinking.chooseAgent = some .tick := by decide

theorem witness_ConfigurationImmutableInRun :
    busy.dmaState ≠ .idle ∧ ∃ t, step busy = .next t := ⟨by decide, _, rfl⟩

theorem witness_ParametersNeverWritten : ∃ t, step busy = .next t := ⟨_, rfl⟩

/-! ### States that meet the invariant -/

theorem busy_inv : busy.Inv :=
  ⟨by decide +kernel, by decide +kernel, by decide +kernel, by decide +kernel, by decide +kernel,
    by decide +kernel⟩

theorem transferred_inv : transferred.Inv :=
  ⟨by decide +kernel, by decide +kernel, by decide +kernel, by decide +kernel, by decide +kernel,
    by decide +kernel⟩

theorem flagged_inv : flagged.Inv :=
  ⟨by decide +kernel, by decide +kernel, by decide +kernel, by decide +kernel, by decide +kernel,
    by decide +kernel⟩

theorem halfVisible_inv : halfVisible.Inv :=
  ⟨by decide +kernel, by decide +kernel, by decide +kernel, by decide +kernel, by decide +kernel,
    by decide +kernel⟩

theorem visible_inv : visible.Inv :=
  ⟨by decide +kernel, by decide +kernel, by decide +kernel, by decide +kernel, by decide +kernel,
    by decide +kernel⟩

theorem verified_inv : verified.Inv :=
  ⟨by decide +kernel, by decide +kernel, by decide +kernel, by decide +kernel, by decide +kernel,
    by decide +kernel⟩

theorem blinking_inv : blinking.Inv :=
  ⟨by decide +kernel, by decide +kernel, by decide +kernel, by decide +kernel, by decide +kernel,
    by decide +kernel⟩

theorem oneWord_inv : oneWord.Inv :=
  ⟨by decide +kernel, by decide +kernel, by decide +kernel, by decide +kernel, by decide +kernel,
    by decide +kernel⟩

/-- The same block with one bit of CRC_CHECK off, which ends in a mismatch. -/
def oneWordOff : State := { oneWord with crcCheck := some 0x99F8B878 }

theorem oneWordOff_inv : oneWordOff.Inv :=
  ⟨by decide +kernel, by decide +kernel, by decide +kernel, by decide +kernel, by decide +kernel,
    by decide +kernel⟩

/-- CHECKING in a run whose AUTOCHK is 0 (V17). -/
def unarmed : State := { checking with autochk := false, resValid := false }

theorem unarmed_inv : unarmed.Inv :=
  ⟨by decide +kernel, by decide +kernel, by decide +kernel, by decide +kernel, by decide +kernel,
    by decide +kernel⟩

/-- A BUSY engine whose source bytes are not admitted (D18). -/
def unbacked : State := { busy with mem := [] }

theorem unbacked_inv : unbacked.Inv :=
  ⟨by decide +kernel, by decide +kernel, by decide +kernel, by decide +kernel, by decide +kernel,
    by decide +kernel⟩

/-- The three rises of the flag, one at a time. -/
theorem witness_FlagMonotone :
    (transferred.Inv ∧ ∃ t, step transferred = .next t ∧ t.flagSrc = true)
      ∧ (flagged.Inv ∧ ∃ t, step flagged = .next t ∧ t.sync1 = true)
      ∧ (halfVisible.Inv ∧ ∃ t, step halfVisible = .next t ∧ t.sync2 = true) :=
  ⟨⟨transferred_inv, _, rfl, rfl⟩, ⟨flagged_inv, _, rfl, rfl⟩, ⟨halfVisible_inv, _, rfl, rfl⟩⟩

/-- Each of the two events is enabled in some state of the invariant. -/
theorem witness_EventAndTickNeverBothEnabled :
    (transferred.Inv ∧ transferred.enabled .handler = true)
      ∧ blinking.Inv ∧ blinking.enabled .tick = true :=
  ⟨⟨transferred_inv, by decide⟩, blinking_inv, by decide⟩

theorem witness_VisibleFlagMeansBlockFolded : visible.Inv ∧ visible.sync2 = true :=
  ⟨visible_inv, rfl⟩

theorem witness_AutonomousFaultsAreOnlyThese :
    (unbacked.Inv ∧ ∃ t r, step unbacked = .next t ∧ t.fault = some r ∧ r.agent = .dma)
      ∧ unarmed.Inv ∧ ∃ t r, step unarmed = .next t ∧ t.fault = some r ∧ r.agent = .ind :=
  ⟨⟨unbacked_inv, _, _, rfl, rfl, rfl⟩, unarmed_inv, _, _, rfl, rfl, rfl⟩

theorem witness_TerminalStates :
    (verified.Inv ∧ verified.fault = none ∧ verified.indState = .verified)
      ∧ (visible.Inv ∧ visible.fault = none ∧ visible.indState = .waiting)
      ∧ (unarmed.Inv ∧ unarmed.indState = .checking)
      ∧ (blinking.Inv ∧ blinking.fault = none ∧ blinking.indState = .mismatchBlink) :=
  ⟨⟨verified_inv, rfl, rfl⟩, ⟨visible_inv, rfl, rfl⟩, ⟨unarmed_inv, rfl⟩, blinking_inv, rfl, rfl⟩

theorem witness_VerdictIsTheBlocksCrc :
    (verified.Inv ∧ verified.indState = .verified)
      ∧ blinking.Inv ∧ blinking.indState = .mismatchBlink :=
  ⟨⟨verified_inv, rfl⟩, blinking_inv, rfl⟩

theorem witness_StepKeepsInvariant : busy.Inv ∧ ∃ t, step busy = .next t := ⟨busy_inv, _, rfl⟩

/-- A block of one word, with its CRC right: the match clause. -/
theorem witness_RunReachesVerdictInBoundedSteps :
    (oneWord.Inv ∧ oneWord.fault = none ∧ oneWord.hpc = oneWord.hostProg.length
        ∧ oneWord.dmaState = .busy ∧ oneWord.autochk = true ∧ oneWord.evtEn = true
        ∧ oneWord.dmaCtl = some ⟨2, 0, 0, true⟩ ∧ oneWord.crcCfg = some ⟨true, true, true⟩
        ∧ oneWord.crcCheck = some 0x99F8B879 ∧ oneWord.dmaBlock = some 1
        ∧ oneWord.blockCrc 1 = some 0x61E2E066)
      ∧ crcFinal ⟨true, true, true⟩ 0x61E2E066 = 0x99F8B879 :=
  ⟨⟨oneWord_inv, rfl, rfl, rfl, rfl, rfl, rfl, rfl, rfl, rfl, by decide +kernel⟩, by decide +kernel⟩

/-- The same block with one bit of CRC_CHECK off: the mismatch clause. -/
theorem witness_RunReachesVerdictInBoundedSteps_mismatch :
    (oneWordOff.Inv ∧ oneWordOff.fault = none ∧ oneWordOff.hpc = oneWordOff.hostProg.length
        ∧ oneWordOff.dmaState = .busy ∧ oneWordOff.autochk = true ∧ oneWordOff.evtEn = true
        ∧ oneWordOff.dmaCtl = some ⟨2, 0, 0, true⟩ ∧ oneWordOff.crcCfg = some ⟨true, true, true⟩
        ∧ oneWordOff.crcCheck = some 0x99F8B878 ∧ oneWordOff.dmaBlock = some 1
        ∧ oneWordOff.blockCrc 1 = some 0x61E2E066)
      ∧ crcFinal ⟨true, true, true⟩ 0x61E2E066 ≠ 0x99F8B878 :=
  ⟨⟨oneWordOff_inv, rfl, rfl, rfl, rfl, rfl, rfl, rfl, rfl, rfl, by decide +kernel⟩, by decide +kernel⟩

/-- The run from a state, which stops moving where a step answers no next state. -/
def runFrom (s : State) : Nat → State
  | 0 => s
  | n + 1 => (after (step (runFrom s n))).getD (runFrom s n)

/-- The state the one-word run settles in after its six steps. -/
def oneWordEnd : State :=
  { oneWord with
    crcState := some 0x61E2E066
    count := 1
    curSrc := 0x20000004
    rem := 0
    dmaState := .done
    resValid := true
    flagSrc := true
    sync1 := true
    sync2 := true
    handlerCount := 1
    indState := .verified
    out := true
    turn := 6 }

theorem oneWord_run_prefix : runFrom oneWord 6 = oneWordEnd := by decide +kernel

theorem oneWord_run_rest : ∀ n, runFrom oneWord (n + 6) = oneWordEnd
  | 0 => oneWord_run_prefix
  | n + 1 => by
    have h := oneWord_run_rest n
    show (after (step (runFrom oneWord (n + 6)))).getD (runFrom oneWord (n + 6)) = oneWordEnd
    rw [h]
    rfl

theorem step_eq_next (s : State) (h : (after (step s)).isSome = true) :
    step s = .next ((after (step s)).getD s) := by
  cases hs : step s <;> simp_all [after]

theorem oneWord_isRun : IsRun (runFrom oneWord) := by
  intro n
  rcases lt_or_ge n 6 with h | h
  · interval_cases n <;> exact step_eq_next _ (by decide +kernel)
  · obtain ⟨k, rfl⟩ := Nat.exists_eq_add_of_le h
    rw [show 6 + k + 1 = k + 1 + 6 by omega, show 6 + k = k + 6 by omega, oneWord_run_rest,
      oneWord_run_rest]
    rfl

theorem oneWord_weaklyFair : WeaklyFair (runFrom oneWord) := by
  intro a n h
  have he := h (n + 6) (by omega)
  rw [oneWord_run_rest] at he
  cases a <;> exact absurd he (by decide)

/-- A weakly fair run without a fault that meets every hypothesis: the one-word block of section 2.1. -/
theorem witness_FairRunReachesVerdict :
    IsRun (runFrom oneWord) ∧ WeaklyFair (runFrom oneWord) ∧ (runFrom oneWord 0).Inv
      ∧ (runFrom oneWord 0).dmaState = .busy ∧ (runFrom oneWord 0).evtEn = true
      ∧ (runFrom oneWord 0).dmaCtl = some ⟨2, 0, 0, true⟩ :=
  ⟨oneWord_isRun, oneWord_weaklyFair, oneWord_inv, rfl, rfl, rfl⟩

theorem witness_ReflectionFunctions :
    31 < 32 ∧ 3 < 4 ∧ 7 < 8 ∧ (CrcCfg.mk false true true).refin = false
      ∧ (CrcCfg.mk true true true).refin = true := by decide

theorem witness_ResetEntryPoint : [HostOp.waitflag] ≠ [] ∧ ([] : List HostOp) = [] := by decide

end Sys2Proof.Tests
end

section
/-! SUPPORT. Words: the bytes of a little-endian word, and the bit reversals (spec/00_scope.md R13, R16). -/

namespace Sys2Proof.Machine

/-- The bytes of an assembled word, least significant first (R13). -/
theorem extractLsb'_bytes (b0 b1 b2 b3 : Byte) :
    (b3 ++ b2 ++ b1 ++ b0 : Word).extractLsb' 0 8 = b0
      ∧ (b3 ++ b2 ++ b1 ++ b0 : Word).extractLsb' 8 8 = b1
      ∧ (b3 ++ b2 ++ b1 ++ b0 : Word).extractLsb' 16 8 = b2
      ∧ (b3 ++ b2 ++ b1 ++ b0 : Word).extractLsb' 24 8 = b3 := by
  have skip : ∀ {v : Nat} (hi : BitVec v) (lo : Byte) (k : Nat),
      (hi ++ lo).extractLsb' (k + 8) 8 = hi.extractLsb' k 8 := fun _ _ _ =>
    BitVec.extractLsb'_append_eq_of_le (by omega)
  exact ⟨BitVec.extractLsb'_append_eq_right,
    (skip _ b0 0).trans BitVec.extractLsb'_append_eq_right,
    ((skip _ b0 8).trans (skip _ b1 0)).trans BitVec.extractLsb'_append_eq_right,
    ((skip _ b0 16).trans (skip _ b1 8)).trans BitVec.extractLsb'_append_eq_left⟩

/-- A word is refused exactly where one of its bytes is not admitted (20_memory.md R58). -/
theorem Memory.readWord_eq_none (m : Memory) (a : Word) :
    m.readWord a = none ↔ m.readByte a.toNat = none ∨ m.readByte (a + 1).toNat = none
      ∨ m.readByte (a + 2).toNat = none ∨ m.readByte (a + 3).toNat = none := by
  unfold Memory.readWord
  cases m.readByte a.toNat <;> cases m.readByte (a + 1).toNat <;> cases m.readByte (a + 2).toNat
    <;> cases m.readByte (a + 3).toNat <;> simp only [reduceCtorEq, or_true, or_false]

theorem getLsbD_rev32 (x : Word) (i : Nat) (hi : i < 32) :
    (rev32 x).getLsbD i = x.getLsbD (31 - i) := by
  rw [rev32, BitVec.getLsbD_reverse, BitVec.getMsbD_eq_getLsbD, decide_eq_true hi, Bool.true_and]

theorem rev32_xor (x y : Word) : rev32 (x ^^^ y) = rev32 x ^^^ rev32 y := by
  apply BitVec.eq_of_getLsbD_eq
  intro i hi
  simp only [BitVec.getLsbD_xor, getLsbD_rev32 _ i hi]

/-- Bit `i` of a word's reversed byte at bit `j`. -/
theorem getLsbD_reverse_byte (x : Word) (j i : Nat) (hi : i < 8) :
    (x.extractLsb' j 8).reverse.getLsbD i = x.getLsbD (j + 7 - i) := by
  have hlt : 8 - 1 - i < 8 := by omega
  have hidx : j + (8 - 1 - i) = j + 7 - i := by omega
  rw [BitVec.getLsbD_reverse, BitVec.getMsbD_eq_getLsbD, BitVec.getLsbD_extractLsb',
    decide_eq_true hi, decide_eq_true hlt, Bool.true_and, Bool.true_and, hidx]

theorem getLsbD_rev8each (x : Word) (k i : Nat) (hk : k < 4) (hi : i < 8) :
    (rev8each x).getLsbD (8 * k + i) = x.getLsbD (8 * k + 7 - i) := by
  rw [← getLsbD_reverse_byte x (8 * k) i hi]
  simp only [rev8each, BitVec.getLsbD_append]
  interval_cases k
  · rw [if_pos (by omega)]; congr 1; omega
  · rw [if_neg (by omega), if_pos (by omega)]; congr 1; omega
  · rw [if_neg (by omega), if_neg (by omega), if_pos (by omega)]; congr 1; omega
  · rw [if_neg (by omega), if_neg (by omega), if_neg (by omega)]; congr 1; omega

end Sys2Proof.Machine
end

section
/-! PROOFS. The statements about words. -/

namespace Sys2Proof.Machine

/-- Settles O36: the word is the four bytes in order, and it is refused with any one of them. -/
theorem memReadLittleEndian : Obligations.MemReadLittleEndian := by
  unfold Obligations.MemReadLittleEndian
  refine ⟨fun m a b0 b1 b2 b3 h0 h1 h2 h3 => ?_, Memory.readWord_eq_none⟩
  exact ⟨b3 ++ b2 ++ b1 ++ b0,
    (Memory.readWord_eq_some m a _).mpr ⟨b0, b1, b2, b3, h0, h1, h2, h3, rfl⟩,
    extractLsb'_bytes b0 b1 b2 b3⟩

/-- Settles O58, bit by bit; reflection is linear, and it keeps the word of all ones. -/
theorem reflectionFunctions : Obligations.ReflectionFunctions := by
  unfold Obligations.ReflectionFunctions
  have ones : rev32 0xFFFFFFFF = 0xFFFFFFFF := by decide +kernel
  refine ⟨getLsbD_rev32, getLsbD_rev8each, by decide +kernel, by decide +kernel,
    fun g cfg w => ⟨fun h => ?_, fun h => ?_⟩,
    fun _ _ => rfl, fun x => by rw [rev32_xor, ones]⟩
  · exact if_neg (by simp [h])
  · exact ⟨if_pos h, if_pos h⟩

end Sys2Proof.Machine
end

section
/-! SUPPORT. What a configuration write stores, field by field (spec/30_encoding.md R86). -/

namespace Sys2Proof.Machine

variable (s : State) (i : Instr)

@[simp] theorem store_evtRaw : (s.store i).evtRaw = s.evtRaw := by cases i <;> rfl
@[simp] theorem store_flagSrc : (s.store i).flagSrc = s.flagSrc := by cases i <;> rfl
@[simp] theorem store_sync1 : (s.store i).sync1 = s.sync1 := by cases i <;> rfl
@[simp] theorem store_sync2 : (s.store i).sync2 = s.sync2 := by cases i <;> rfl
@[simp] theorem store_handlerCount : (s.store i).handlerCount = s.handlerCount := by cases i <;> rfl
@[simp] theorem store_indState : (s.store i).indState = s.indState := by cases i <;> rfl
@[simp] theorem store_out : (s.store i).out = s.out := by cases i <;> rfl
@[simp] theorem store_tickCnt : (s.store i).tickCnt = s.tickCnt := by cases i <;> rfl
@[simp] theorem store_dmaState : (s.store i).dmaState = s.dmaState := by cases i <;> rfl
@[simp] theorem store_curSrc : (s.store i).curSrc = s.curSrc := by cases i <;> rfl
@[simp] theorem store_rem : (s.store i).rem = s.rem := by cases i <;> rfl
@[simp] theorem store_hpc : (s.store i).hpc = s.hpc := by cases i <;> rfl
@[simp] theorem store_hostlog : (s.store i).hostlog = s.hostlog := by cases i <;> rfl
@[simp] theorem store_fault : (s.store i).fault = s.fault := by cases i <;> rfl
@[simp] theorem store_params : (s.store i).params = s.params := by cases i <;> rfl
@[simp] theorem store_hostProg : (s.store i).hostProg = s.hostProg := by cases i <;> rfl
@[simp] theorem store_mem : (s.store i).mem = s.mem := by cases i <;> rfl
@[simp] theorem store_sched : (s.store i).sched = s.sched := by cases i <;> rfl
@[simp] theorem store_turn : (s.store i).turn = s.turn := by cases i <;> rfl

@[simp] theorem store_crcCfg (h : i.reg ≠ .crcCfg) : (s.store i).crcCfg = s.crcCfg := by
  cases i with
  | wrCrcCfg => exact absurd rfl h
  | _ => rfl

/-- A CRC_SEED write alone touches the seed, the running CRC, the count and the result (40_crc.md R93). -/
@[simp] theorem store_crcSeed (h : i.reg ≠ .crcSeed) :
    (s.store i).crcSeed = s.crcSeed ∧ (s.store i).crcState = s.crcState
      ∧ (s.store i).count = s.count ∧ (s.store i).resValid = s.resValid
      ∧ (s.store i).resMismatch = s.resMismatch := by
  cases i with
  | wrCrcSeed => exact absurd rfl h
  | _ => exact ⟨rfl, rfl, rfl, rfl, rfl⟩

@[simp] theorem store_crcCheck (h : i.reg ≠ .crcCheck) : (s.store i).crcCheck = s.crcCheck := by
  cases i with
  | wrCrcCheck => exact absurd rfl h
  | _ => rfl

@[simp] theorem store_crcLength (h : i.reg ≠ .crcLength) : (s.store i).crcLength = s.crcLength := by
  cases i with
  | wrCrcLength => exact absurd rfl h
  | _ => rfl

@[simp] theorem store_autochk (h : i.reg ≠ .crcCtrl) : (s.store i).autochk = s.autochk := by
  cases i with
  | wrCrcCtrl => exact absurd rfl h
  | _ => rfl

@[simp] theorem store_dmaSar (h : i.reg ≠ .dmaSar) : (s.store i).dmaSar = s.dmaSar := by
  cases i with
  | wrDmaSar => exact absurd rfl h
  | _ => rfl

@[simp] theorem store_dmaDar (h : i.reg ≠ .dmaDar) : (s.store i).dmaDar = s.dmaDar := by
  cases i with
  | wrDmaDar => exact absurd rfl h
  | _ => rfl

@[simp] theorem store_dmaCtl (h : i.reg ≠ .dmaCtl) : (s.store i).dmaCtl = s.dmaCtl := by
  cases i with
  | wrDmaCtl => exact absurd rfl h
  | _ => rfl

@[simp] theorem store_dmaBlock (h : i.reg ≠ .dmaBlock) : (s.store i).dmaBlock = s.dmaBlock := by
  cases i with
  | wrDmaBlock => exact absurd rfl h
  | _ => rfl

@[simp] theorem store_evtEn (h : i.reg ≠ .dmaEvten) : (s.store i).evtEn = s.evtEn := by
  cases i with
  | wrDmaEvten => exact absurd rfl h
  | _ => rfl

@[simp] theorem store_indThr (h : i.reg ≠ .indThr) : (s.store i).indThr = s.indThr := by
  cases i with
  | wrIndThr => exact absurd rfl h
  | _ => rfl

end Sys2Proof.Machine
end

section
/-! SUPPORT. What a host instruction does, by its kind: a read, a write, DMA_START. -/

namespace Sys2Proof.Machine

variable {i : Instr} {s t : State}

/-- A read completes at its register's offset, or is a fault over the state as it was (R77, R79). -/
theorem exec_read_cases (hi : i.dataWord = none) (h : exec i s = .next t) :
    (∃ c, t = s.raise .host c) ∨ ∃ v, t = s.completeRead i.reg v := by
  have stored : ∀ r v, (∃ c, readStored r v s = s.raise .host c)
      ∨ ∃ w, readStored r v s = s.completeRead r w := fun r v =>
    (readStored_cases r v s).imp (fun ⟨_, e⟩ => ⟨_, e⟩) (fun ⟨w, _, e⟩ => ⟨w, e⟩)
  cases i with
  | rdCrcCfg | rdCrcSeed | rdCrcCheck | rdCrcLength | rdCrcRes | rdDmaSar | rdDmaDar | rdDmaCtl
    | rdDmaBlock =>
    cases h
    exact stored _ _
  | rdCrcCtrl | rdCrcCnt | rdDmaEvten | rdDmaSts | rdDmaRem | rdIndSts | rdIndTcnt | rdIndThr =>
    cases h
    exact .inr ⟨_, rfl⟩
  | rdCrcSts =>
    cases h
    by_cases hr : s.resultReadable = true
    · exact .inr ⟨_, if_pos hr⟩
    · exact .inl ⟨_, if_neg hr⟩
  | rdSyncSts =>
    cases h
    by_cases hd : s.dmaState = .idle
    · exact .inl ⟨_, if_pos hd⟩
    · exact .inr ⟨_, if_neg hd⟩
  | _ => cases hi

/-- A write is a fault over the state as it was, or stores and advances, or is an accepted DMA_START
(R76, R78, R131). -/
theorem exec_write_cases (hi : i.dataWord ≠ none) (h : exec i s = .next t) :
    (∃ c, t = s.raise .host c) ∨ t = (s.store i).advance
      ∨ (i.reg = .dmaStart ∧ startTransfer s = .ok t) := by
  have checked : ∀ r d f, (∃ c, hostWrite r d s f = s.raise .host c) ∨ hostWrite r d s f = f s :=
    fun r d f => (hostWrite_cases r d s f).imp (fun ⟨c, _, e⟩ => ⟨c, e⟩) (fun ⟨_, e⟩ => e)
  cases i with
  | wrCrcCfg | wrCrcSeed | wrCrcCheck | wrCrcLength | wrCrcCtrl | wrDmaSar | wrDmaDar | wrDmaCtl
    | wrDmaBlock | wrDmaEvten =>
    cases h
    exact (checked _ _ _).imp_right .inl
  | wrCrcIr | wrDmaEvtclr | wrSyncSet =>
    cases h
    exact .inl ⟨_, rfl⟩
  | wrIndThr d =>
    cases h
    rcases checked .indThr d _ with hc | hf
    · exact .inl hc
    · rw [hf]
      by_cases hd : d = 0
      · exact .inl ⟨_, if_pos hd⟩
      · exact .inr (.inl (if_neg hd))
  | wrDmaStart d =>
    cases h
    rcases checked .dmaStart d _ with hc | hf
    · exact .inl hc
    · rw [hf]
      by_cases hgo : d.getLsbD 0 = true
      · rw [if_pos hgo]
        cases hs : startTransfer s with
        | ok u => exact .inr (.inr ⟨rfl, rfl⟩)
        | error c => exact .inl ⟨c, rfl⟩
      · exact .inr (.inl (if_neg hgo))
  | _ => exact absurd rfl hi

/-- What a host instruction can do, and which instruction does it. -/
theorem exec_next_cases (h : exec i s = .next t) :
    (∃ c, t = s.raise .host c)
      ∨ (i.dataWord = none ∧ ∃ v, t = s.completeRead i.reg v)
      ∨ (i.dataWord ≠ none ∧ t = (s.store i).advance)
      ∨ (i.reg = .dmaStart ∧ ∃ o : StartOperands,
          t = State.advance { s with dmaState := .busy, curSrc := o.sar, rem := o.block }) := by
  by_cases hi : i.dataWord = none
  · exact (exec_read_cases hi h).imp_right fun hv => .inl ⟨hi, hv⟩
  · rcases exec_write_cases hi h with hc | hs | ⟨hr, hs⟩
    · exact .inl hc
    · exact .inr (.inr (.inl ⟨hi, hs⟩))
    · obtain ⟨_, o, _, _, ht⟩ := (startTransfer_eq_ok s t).mp hs
      exact .inr (.inr (.inr ⟨hr, o, ht⟩))

end Sys2Proof.Machine
end

section
/-! SUPPORT. The frame of every agent's step: a fault record over the state as it was, or no record and the
launch memory, the program and the parameters kept (spec/00_scope.md R9, R14). -/

namespace Sys2Proof.Machine

variable {s t : State}

/-- The latch changes the result bits only (40_crc.md R106). -/
theorem latchResult_frame {cfg : CrcCfg} {c : Word} (h : latchResult cfg c s = .ok t) :
    t = { s with resMismatch := t.resMismatch, resValid := t.resValid } := by
  rcases latchResult_cases cfg c s t h with ⟨check, _, _, _, rfl⟩ | ⟨_, rfl⟩ <;> rfl

/-- A fold changes the running CRC, the count and the result bits only (40_crc.md R106). -/
theorem crcFold_frame {w : Word} (h : crcFold w s = .ok t) :
    t = { s with
      crcState := t.crcState
      count := t.count
      resMismatch := t.resMismatch
      resValid := t.resValid } := by
  obtain ⟨cfg, c0, _, _, hl⟩ := crcFold_ok w s t h
  rw [latchResult_frame hl]
  rfl

/-- A word step changes the CRC unit's progress, the engine's and the event only (41_dma.md R135). -/
theorem dmaWord_frame (h : dmaWord s = .ok t) :
    t = { s with
      crcState := t.crcState
      count := t.count
      resMismatch := t.resMismatch
      resValid := t.resValid
      curSrc := t.curSrc
      rem := t.rem
      dmaState := t.dmaState
      evtRaw := t.evtRaw } := by
  obtain ⟨w, u, _, hf, hw⟩ := dmaWord_ok s t h
  rcases finishWord_cases _ _ hw with ⟨_, rfl⟩ | ⟨ctl, _, _, rfl⟩ <;> rw [crcFold_frame hf]

/-- WAITFLAG is F_ORDER, or advances, or holds (42_sync.md R158). -/
theorem waitflagStep_cases (s : State) :
    waitflagStep s = s.raise .host ⟨.order, .waitflag⟩ ∨ waitflagStep s = s.advance
      ∨ waitflagStep s = s := by
  unfold waitflagStep
  split_ifs <;> simp

/-- IND's step faults, or changes its state, its output and the tick count only (43_indicator.md R170, R172). -/
theorem indStep_cases (s : State) :
    (∃ c, indStep s = s.raise .ind c)
      ∨ indStep s = { s with
        indState := (indStep s).indState
        out := (indStep s).out
        tickCnt := (indStep s).tickCnt } := by
  unfold indStep
  split
  · exact .inr rfl
  · unfold indCheck
    split_ifs
    · exact .inr rfl
    · exact .inr rfl
    · exact .inl ⟨_, rfl⟩
  · exact .inr rfl
  · exact .inr rfl

/-- The tick changes the tick count and the output only (43_indicator.md R176). -/
theorem tickStep_frame (s : State) :
    tickStep s = { s with tickCnt := (tickStep s).tickCnt, out := (tickStep s).out } := by
  unfold tickStep
  split_ifs <;> rfl

/-- `t` has the fault record, the parameters, the program and the launch memory of `s`. -/
structure State.SameLaunch (s t : State) : Prop where
  fault : t.fault = s.fault
  params : t.params = s.params
  hostProg : t.hostProg = s.hostProg
  mem : t.mem = s.mem

/-- A host instruction raises, or keeps the record and what is fixed at launch. -/
theorem exec_raise_or_sameLaunch {i : Instr} (h : exec i s = .next t) :
    (∃ c, t = s.raise .host c) ∨ s.SameLaunch t := by
  rcases exec_next_cases h with hc | ⟨_, v, rfl⟩ | ⟨_, rfl⟩ | ⟨_, o, rfl⟩
  · exact .inl hc
  · exact .inr ⟨rfl, rfl, rfl, rfl⟩
  · exact .inr ⟨by simp, by simp, by simp, by simp⟩
  · exact .inr ⟨rfl, rfl, rfl, rfl⟩

/-- HOST's step raises, or keeps the record and what is fixed at launch. -/
theorem hostStep_raise_or_sameLaunch (h : hostStep s = .next t) :
    (∃ c, t = s.raise .host c) ∨ s.SameLaunch t := by
  cases hop : s.nextOp with
  | none =>
    rw [hostStep, hop] at h
    cases h
    exact .inr ⟨rfl, rfl, rfl, rfl⟩
  | some op =>
    rcases hostStep_cases s t op hop h with ⟨_, rfl⟩ | ⟨i, hi⟩ | ⟨o, rfl⟩
    · rcases waitflagStep_cases s with hw | hw | hw <;> rw [hw]
      · exact .inl ⟨_, rfl⟩
      · exact .inr ⟨rfl, rfl, rfl, rfl⟩
      · exact .inr ⟨rfl, rfl, rfl, rfl⟩
    · exact exec_raise_or_sameLaunch hi
    · exact .inl ⟨_, rfl⟩

/-- EVERY agent's step raises, or keeps the record and what is fixed at launch. -/
theorem agentStep_raise_or_sameLaunch {a : Agent} (h : agentStep a s = .next t) :
    (∃ c, t = s.raise a c) ∨ s.SameLaunch t := by
  cases a with
  | host => exact hostStep_raise_or_sameLaunch h
  | dma =>
    cases h
    rcases dmaStep_cases s with ⟨u, hu, hs⟩ | ⟨c, _, hs⟩ <;> rw [hs]
    · rw [dmaWord_frame hu]
      exact .inr ⟨rfl, rfl, rfl, rfl⟩
    · exact .inl ⟨c, rfl⟩
  | handler | sync =>
    cases h
    exact .inr ⟨rfl, rfl, rfl, rfl⟩
  | ind =>
    cases h
    rcases indStep_cases s with hc | hs
    · exact .inl hc
    · rw [hs]
      exact .inr ⟨rfl, rfl, rfl, rfl⟩
  | tick =>
    cases h
    rw [tickStep_frame]
    exact .inr ⟨rfl, rfl, rfl, rfl⟩

/-- EVERY step of the machine starts without a record, and writes one over the state as it was, or keeps
what is fixed at launch and records nothing. -/
theorem step_raise_or_sameLaunch (h : step s = .next t) :
    s.fault = none ∧ ((∃ a c, t = s.nextTurn.raise a c) ∨ s.SameLaunch t) := by
  obtain ⟨hf, ⟨_, rfl⟩ | ⟨a, _, _, ha⟩⟩ := step_cases s t h
  · exact ⟨hf, .inr ⟨rfl, rfl, rfl, rfl⟩⟩
  · refine ⟨hf, (agentStep_raise_or_sameLaunch ha).imp (fun ⟨c, hc⟩ => ⟨a, c, hc⟩) ?_⟩
    exact fun ⟨h1, h2, h3, h4⟩ => ⟨h1, h2, h3, h4⟩

/-- A fault record changes nothing else (60_exceptions.md R201). -/
theorem raise_eq_of_fault {a : Agent} {c : Cause} {r : FaultRecord} (h : (s.raise a c).fault = some r) :
    s.raise a c = { s with fault := some r } := by
  rw [← h]
  rfl

theorem enabled_eq_false_of_fault {r : FaultRecord} (h : s.fault = some r) (a : Agent) :
    s.enabled a = false := by
  simp [State.enabled, h]

theorem settledIn_eq_false_of_fault {r : FaultRecord} (h : s.fault = some r) (i : IndState) :
    s.settledIn i = false := by
  simp [State.settledIn, h]

/-- A faulted machine stops with its record (60_exceptions.md R201). -/
theorem step_of_fault {r : FaultRecord} (h : s.fault = some r) : step s = .fault (.halted r) := by
  rw [step, machineStep, h]

theorem enabledAgents_eq_nil (s : State) : s.enabledAgents = [] ↔ ∀ a, s.enabled a = false := by
  simp [List.eq_nil_iff_forall_not_mem, mem_enabledAgents]

/-- A machine without an enabled agent stays as it is (log entry 7). -/
theorem step_of_none_enabled (hf : s.fault = none) (h : s.enabledAgents = []) : step s = .next s := by
  rw [step, machineStep, hf, (chooseAgent_eq_none s).mpr h]

/-- The head of the schedule moves, where it is enabled (60_exceptions.md R204). -/
theorem chooseAgent_of_head {a : Agent} {rest : List Agent} (hs : s.sched = a :: rest)
    (h : s.enabled a = true) : s.chooseAgent = some a := by
  have hmem := (mem_enabledAgents s a).mpr h
  unfold State.chooseAgent
  split
  · next hnil => simp [hnil] at hmem
  · next b hone =>
    obtain rfl : a = b := by simpa [hone] using hmem
    rfl
  · rw [hs]; exact if_pos h

/-- HOST has no step once its program has ended (30_encoding.md R75). -/
theorem hostReady_of_finished (h : s.hostProg.length ≤ s.hpc) : s.hostReady = false := by
  rw [State.hostReady, State.nextOp, List.getElem?_eq_none h]

/-- HOST holds at WAITFLAG while the visible flag is 0 (42_sync.md R158). -/
theorem hostReady_of_waiting (h : s.hostProg[s.hpc]? = some .waitflag) (hd : s.dmaState ≠ .idle)
    (hs : s.sync2 = false) : s.hostReady = false := by
  simp [State.hostReady, State.nextOp, h, hd, hs]

end Sys2Proof.Machine
end

section
/-! PROOFS. The statements about the machine's step and its frame. -/

namespace Sys2Proof.Machine

open Expected

/-- Settles O8: the head of the schedule moves where it is enabled. -/
theorem anyEnabledAgentMayMove : Obligations.AnyEnabledAgentMayMove := by
  unfold Obligations.AnyEnabledAgentMayMove
  refine ⟨chooseAgent_enabled, fun s a rest h => chooseAgent_of_head rfl h, fun s a h => ?_⟩
  apply Option.ne_none_iff_exists'.mp
  rw [Ne, chooseAgent_eq_none]
  exact List.ne_nil_of_mem ((mem_enabledAgents s a).mpr h)

/-- Settles O9: only a raise leaves a record, and a record disables every agent. -/
theorem faultHaltsMachine : Obligations.FaultHaltsMachine := by
  unfold Obligations.FaultHaltsMachine
  constructor
  · intro s t r h hr
    obtain ⟨hf, ⟨a, c, rfl⟩ | hsame⟩ := step_raise_or_sameLaunch h
    · exact raise_eq_of_fault hr
    · simp [hsame.fault, hf] at hr
  · intro s r h
    exact ⟨enabled_eq_false_of_fault h, step_of_fault h, settledIn_eq_false_of_fault h _,
      settledIn_eq_false_of_fault h _⟩

/-- Settles O11: each agent's enabling condition fails. -/
theorem acceptedHangsStay : Obligations.AcceptedHangsStay := by
  unfold Obligations.AcceptedHangsStay
  intro s hf hd he hflag h1 h2 hi hhost
  have hready : s.hostReady = false := by
    rcases hhost with hdone | ⟨hwait, hd⟩
    · exact hostReady_of_finished hdone
    · exact hostReady_of_waiting hwait (by simp [hd]) h2
  have hirq : s.irq = false := by
    rcases he with he | he <;> simp [State.irq, he]
  have hnil : s.enabledAgents = [] := by
    refine (enabledAgents_eq_nil s).mpr fun a => ?_
    cases a with
    | host => simp [State.enabled, hready]
    | dma => simp [State.enabled, hd]
    | handler => simp [State.enabled, hirq]
    | sync => simp [State.enabled, hflag, h1, h2]
    | ind => simp [State.enabled, State.indReady, hi, h2]
    | tick => simp [State.enabled, State.armed, hi]
  have hfinal : s.finalVerified = false := by simp [State.finalVerified, State.settledIn, hi]
  exact ⟨by simp [State.hung, hf, hnil, hfinal], step_of_none_enabled hf hnil⟩

/-- Settles O33: an instruction raises, completes a read, stores what its own write names, or starts the
engine. -/
theorem hostInstructionFrame : Obligations.HostInstructionFrame := by
  unfold Obligations.HostInstructionFrame
  intro i s t h
  rcases exec_next_cases h with ⟨c, rfl⟩ | ⟨hread, v, rfl⟩ | ⟨hwrite, rfl⟩ | ⟨hstart, o, rfl⟩
  · simp
  · simp [isRead, hread]
  · simp +contextual [isRead, hwrite]
  · simp [hstart]

/-- Settles O47: a step raises, which changes the record only, or keeps what is fixed at launch. -/
theorem parametersNeverWritten : Obligations.ParametersNeverWritten := by
  unfold Obligations.ParametersNeverWritten
  intro s t h
  obtain ⟨_, ⟨a, c, rfl⟩ | hsame⟩ := step_raise_or_sameLaunch h
  · exact ⟨rfl, rfl, fun _ => rfl⟩
  · exact ⟨hsame.params, hsame.hostProg, fun a => by rw [hsame.mem]⟩

end Sys2Proof.Machine
end

section
/-! SUPPORT. The write check of reserved bits, and the reserved bits of every value a read can log
(spec/10_state.md R27, R28; 30_encoding.md R78, R79). -/

namespace Sys2Proof.Machine

variable {i : Instr} {r : Reg} {d : Word} {s : State}

/-- The reserved-bits check is the last of R78. -/
theorem writeCheck_eq_reserved (hstar : r.access ≠ .wStar)
    (hlock : r.isConfig = true → s.dmaState = .idle) (hres : d &&& r.reserved ≠ 0) :
    writeCheck r d s = some ⟨.reserved, .offsetData r.offset d⟩ := by
  have hunlocked : ¬(r.isConfig && s.locked) = true := by
    simpa [State.locked] using hlock
  rw [writeCheck, if_neg hstar, if_neg hunlocked, if_pos hres]

/-- EVERY write goes through R78's checks of its register before its own rule. -/
theorem exec_eq_hostWrite (h : i.dataWord = some d) :
    ∃ perform, exec i s = .next (hostWrite i.reg d s perform) := by
  cases i <;> cases h <;> exact ⟨_, rfl⟩

theorem exec_of_writeCheck {c : Cause} (h : i.dataWord = some d) (hc : writeCheck i.reg d s = some c) :
    exec i s = .next (s.raise .host c) := by
  obtain ⟨perform, he⟩ := exec_eq_hostWrite (s := s) h
  rw [he, hostWrite, hc]

/-- A zero-extended value meets a mask only in its own bits. -/
theorem setWidth_and_eq_zero {n : Nat} {x : BitVec n} {mask : Word} (h : x &&& mask.setWidth n = 0) :
    x.setWidth 32 &&& mask = 0 := by
  apply BitVec.eq_of_getLsbD_eq
  intro k hk
  have hbit := congrArg (BitVec.getLsbD · k) h
  simp only [BitVec.getLsbD_and, BitVec.getLsbD_setWidth, BitVec.ofNat_eq_ofNat, BitVec.getLsbD_zero,
    hk, decide_true, Bool.true_and] at hbit ⊢
  by_cases hkn : k < n
  · simpa only [hkn, decide_true, Bool.true_and] using hbit
  · rw [BitVec.getLsbD_of_ge x k (by omega), Bool.false_and]

theorem zextBit_reserved (b : Bool) : zextBit b &&& 0xFFFFFFFE = 0 :=
  setWidth_and_eq_zero (by decide +revert)

theorem toWord_crcCfg_reserved (c : CrcCfg) : c.toWord &&& Reg.crcCfg.reserved = 0 :=
  setWidth_and_eq_zero (BitVec.and_zero)

/-- DMA_CTL reads 0 around its fields (41_dma.md R126). -/
theorem toWord_dmaCtl_reserved (c : DmaCtl) : c.toWord &&& Reg.dmaCtl.reserved = 0 := by
  have hmask : Reg.dmaCtl.reserved.setWidth _
      = 0#1 ++ 3#2 ++ 0#2 ++ 1#1 ++ 0#3 ++ 1#1 ++ 0#3 := by decide
  apply setWidth_and_eq_zero
  rw [hmask]
  simp only [BitVec.and_append, BitVec.zero_and, BitVec.and_zero, BitVec.zero_append_zero]
  rfl

/-- A status word reads 0 around its fields (41_dma.md R132; 43_indicator.md R184). -/
theorem statusWord_reserved (b5 b4 : Bool) (code : BitVec 2) :
    statusWord b5 b4 code &&& 0xFFFFFFCC = 0 := by
  have hmask : (0xFFFFFFCC : Word).setWidth _ = 0#1 ++ 0#1 ++ 3#2 ++ 0#2 := by decide
  apply setWidth_and_eq_zero
  rw [hmask]
  simp only [BitVec.and_append, BitVec.zero_and, BitVec.and_zero, BitVec.zero_append_zero]
  rfl

theorem setWidth_reserved (n : BitVec 16) : n.setWidth 32 &&& 0xFFFF0000 = (0 : Word) :=
  setWidth_and_eq_zero BitVec.and_zero

end Sys2Proof.Machine
end

section
/-! SUPPORT. The value of a completed read (spec/10_state.md R28; 30_encoding.md R77). -/

namespace Sys2Proof.Machine

variable {i : Instr} {r : Reg} {s : State}

theorem completeRead_inj {q : Reg} {v w : Word} (h : s.completeRead q v = s.completeRead r w) : v = w := by
  have hlog := congrArg State.hostlog h
  simp only [completeRead_hostlog, List.append_cancel_left_eq, List.cons.injEq, LogEntry.mk.injEq] at hlog
  obtain ⟨⟨_, _, hv⟩, _⟩ := hlog
  exact hv

/-- A fault does not advance (60_exceptions.md R201). -/
theorem raise_ne_completeRead {a : Agent} {c : Cause} {v : Word} : s.raise a c ≠ s.completeRead r v :=
  fun h => absurd (congrArg State.hpc h) (by simp)

theorem readStored_eq_completeRead {q : Reg} {v : Option Word} {w : Word}
    (h : readStored q v s = s.completeRead r w) : v = some w := by
  rcases readStored_cases q v s with ⟨_, he⟩ | ⟨u, hu, he⟩
  · exact absurd (he.symm.trans h) raise_ne_completeRead
  · rw [hu, completeRead_inj (he.symm.trans h)]

/-- No completed read shows a 1 in a reserved bit (R28). -/
theorem exec_read_reserved {v : Word} (hi : i.dataWord = none)
    (h : exec i s = .next (s.completeRead i.reg v)) : v &&& i.reg.reserved = 0 := by
  cases i with
  | rdCrcSeed | rdCrcCheck | rdCrcLength | rdCrcRes | rdCrcCnt | rdDmaSar | rdDmaDar | rdIndTcnt
    | rdIndThr => exact BitVec.and_zero
  | rdCrcCfg =>
    obtain ⟨c, _, rfl⟩ := Option.map_eq_some_iff.mp (readStored_eq_completeRead (Host.Outcome.next.inj h))
    exact toWord_crcCfg_reserved c
  | rdDmaCtl =>
    obtain ⟨c, _, rfl⟩ := Option.map_eq_some_iff.mp (readStored_eq_completeRead (Host.Outcome.next.inj h))
    exact toWord_dmaCtl_reserved c
  | rdDmaBlock =>
    obtain ⟨n, _, rfl⟩ := Option.map_eq_some_iff.mp (readStored_eq_completeRead (Host.Outcome.next.inj h))
    exact setWidth_reserved n
  | rdDmaRem =>
    obtain rfl := completeRead_inj (Host.Outcome.next.inj h)
    exact setWidth_reserved _
  | rdCrcCtrl | rdDmaEvten =>
    obtain rfl := completeRead_inj (Host.Outcome.next.inj h)
    exact zextBit_reserved _
  | rdDmaSts | rdIndSts =>
    obtain rfl := completeRead_inj (Host.Outcome.next.inj h)
    exact statusWord_reserved _ _ _
  | rdCrcSts =>
    by_cases hr : s.resultReadable = true
    · obtain rfl := completeRead_inj ((if_pos hr).symm.trans (Host.Outcome.next.inj h))
      exact zextBit_reserved _
    · exact absurd ((if_neg hr).symm.trans (Host.Outcome.next.inj h)) raise_ne_completeRead
  | rdSyncSts =>
    by_cases hd : s.dmaState = .idle
    · exact absurd ((if_pos hd).symm.trans (Host.Outcome.next.inj h)) raise_ne_completeRead
    · obtain rfl := completeRead_inj ((if_neg hd).symm.trans (Host.Outcome.next.inj h))
      exact zextBit_reserved _
  | _ => cases hi

end Sys2Proof.Machine
end

section
/-! SUPPORT. What each agent's step can change, a fault record included (spec/10_state.md R30, R36). -/

namespace Sys2Proof.Machine

variable {i : Instr} {s t : State}

/-- Only a configuration write stores. -/
theorem store_of_not_config (h : i.reg.isConfig = false) : s.store i = s := by
  cases i with
  | wrCrcCfg | wrCrcSeed | wrCrcCheck | wrCrcLength | wrCrcCtrl | wrDmaSar | wrDmaDar | wrDmaCtl
    | wrDmaBlock | wrDmaEvten | wrIndThr => cases h
  | _ => rfl

/-- Outside IDLE a host instruction moves only the host's own index, its log and the record (30_encoding.md
R86). -/
theorem exec_frame_of_locked (hd : s.dmaState ≠ .idle) (h : exec i s = .next t) :
    t = { s with hpc := t.hpc, hostlog := t.hostlog, fault := t.fault } := by
  rcases exec_cases i s with ⟨c, he⟩ | ⟨r, v, he⟩ | ⟨he, hlock, _, _⟩ | ⟨u, hu, _⟩
  · cases he.symm.trans h
    rfl
  · cases he.symm.trans h
    rfl
  · have hconfig : i.reg.isConfig = false := Bool.eq_false_iff.mpr fun hc => hd (hlock hc)
    rw [store_of_not_config hconfig] at he
    cases he.symm.trans h
    rfl
  · exact absurd ((startTransfer_eq_ok s u).mp hu).1 hd

/-- HOST's step is an instruction's, or moves only the host's own index and the record (30_encoding.md
R75). -/
theorem hostStep_exec_or_frame (h : hostStep s = .next t) :
    (∃ i, exec i s = .next t) ∨ t = { s with hpc := t.hpc, fault := t.fault } := by
  cases hop : s.nextOp with
  | none =>
    rw [hostStep, hop] at h
    cases h
    exact .inr rfl
  | some op =>
    rcases hostStep_cases s t op hop h with ⟨_, rfl⟩ | hexec | ⟨o, rfl⟩
    · right
      rcases waitflagStep_cases s with hw | hw | hw <;> rw [hw] <;> rfl
    · exact .inl hexec
    · exact .inr rfl

/-- Outside IDLE, HOST's step moves only the host's own index, its log and the record. -/
theorem hostStep_frame_of_locked (hd : s.dmaState ≠ .idle) (h : hostStep s = .next t) :
    t = { s with hpc := t.hpc, hostlog := t.hostlog, fault := t.fault } := by
  rcases hostStep_exec_or_frame h with ⟨i, hi⟩ | ht
  · exact exec_frame_of_locked hd hi
  · rw [ht]

/-- `t` has the event, the flag, the stages, the indicator and the ticker of `s`: the state that no host
instruction reaches (10_state.md R36). -/
structure State.SameFlagAndIndicator (s t : State) : Prop where
  evtRaw : t.evtRaw = s.evtRaw
  flagSrc : t.flagSrc = s.flagSrc
  handlerCount : t.handlerCount = s.handlerCount
  sync1 : t.sync1 = s.sync1
  sync2 : t.sync2 = s.sync2
  indState : t.indState = s.indState
  tickCnt : t.tickCnt = s.tickCnt
  out : t.out = s.out

theorem exec_sameFlagAndIndicator (h : exec i s = .next t) : s.SameFlagAndIndicator t := by
  rcases exec_next_cases h with ⟨c, rfl⟩ | ⟨_, v, rfl⟩ | ⟨_, rfl⟩ | ⟨_, o, rfl⟩ <;>
    constructor <;> simp

theorem hostStep_sameFlagAndIndicator (h : hostStep s = .next t) : s.SameFlagAndIndicator t := by
  rcases hostStep_exec_or_frame h with ⟨i, hi⟩ | ht
  · exact exec_sameFlagAndIndicator hi
  · rw [ht]
    exact ⟨rfl, rfl, rfl, rfl, rfl, rfl, rfl, rfl⟩

/-- DMA's step changes the CRC unit's progress, the engine's, the event and the record only. -/
theorem dmaStep_frame (s : State) :
    dmaStep s = { s with
      crcState := (dmaStep s).crcState
      count := (dmaStep s).count
      resMismatch := (dmaStep s).resMismatch
      resValid := (dmaStep s).resValid
      curSrc := (dmaStep s).curSrc
      rem := (dmaStep s).rem
      dmaState := (dmaStep s).dmaState
      evtRaw := (dmaStep s).evtRaw
      fault := (dmaStep s).fault } := by
  rcases dmaStep_cases s with ⟨t, ht, he⟩ | ⟨c, _, he⟩ <;> rw [he]
  · rw [dmaWord_frame ht]
  · rfl

/-- IND's step changes its state, its output, the tick count and the record only. -/
theorem indStep_frame (s : State) :
    indStep s = { s with
      indState := (indStep s).indState
      out := (indStep s).out
      tickCnt := (indStep s).tickCnt
      fault := (indStep s).fault } := by
  rcases indStep_cases s with ⟨c, he⟩ | he
  · rw [he]
    rfl
  · rw [he]

/-- The chosen agent's step is the machine's. -/
theorem step_of_chooseAgent {a : Agent} (ha : s.chooseAgent = some a) (h : step s = .next t) :
    agentStep a s.nextTurn = .next t := by
  obtain ⟨_, ⟨hnil, _⟩ | ⟨b, hb, _, hstep⟩⟩ := step_cases s t h
  · rw [(chooseAgent_eq_none s).mpr hnil] at ha
    cases ha
  · cases hb.symm.trans ha
    exact hstep

end Sys2Proof.Machine
end

section
/-! PROOFS. The statements about the registers: reserved bits, writers, and the lock. -/

namespace Sys2Proof.Machine

/-- Settles O31: the write check of R78 answers F_RESERVED, and no read value has a reserved 1. -/
theorem reservedBits : Obligations.ReservedBits := by
  unfold Obligations.ReservedBits
  constructor
  · intro i d s hd hstar hlock hres
    exact exec_of_writeCheck hd (writeCheck_eq_reserved hstar hlock hres)
  · intro i s t e hread h hlog
    rcases exec_read_cases hread h with ⟨c, rfl⟩ | ⟨v, rfl⟩
    · simp at hlog
    · obtain rfl : ⟨s.hpc, i.reg.offset, v⟩ = e := by simpa using hlog
      exact ⟨rfl, exec_read_reserved hread h⟩

/-- Settles O45, agent by agent, by the frame of its step. -/
theorem singleWriters : Obligations.SingleWriters := by
  unfold Obligations.SingleWriters
  intro s t a ha h
  have hstep := step_of_chooseAgent ha h
  cases a with
  | host =>
    have hsame := hostStep_sameFlagAndIndicator hstep
    refine ⟨fun _ => ⟨hsame.flagSrc, hsame.handlerCount⟩, fun _ => ⟨hsame.sync1, hsame.sync2⟩,
      fun _ => hsame.indState, fun _ _ => ⟨hsame.tickCnt, hsame.out⟩, fun _ hd => ?_,
      fun _ _ => hsame.evtRaw⟩
    have hlocked : s.nextTurn.dmaState ≠ .idle := hd.resolve_left (absurd rfl)
    rw [hostStep_frame_of_locked hlocked hstep]
    simp
  | dma =>
    cases hstep
    rw [dmaStep_frame]
    simp
  | handler | sync =>
    cases hstep
    simp
  | ind =>
    cases hstep
    rw [indStep_frame]
    simp
  | tick =>
    cases hstep
    rw [tickStep_frame]
    simp

/-- Settles O46: HOST's step outside IDLE stores nothing, and no other agent's step names a configuration
register. -/
theorem configurationImmutableInRun : Obligations.ConfigurationImmutableInRun := by
  unfold Obligations.ConfigurationImmutableInRun
  intro s t hd h
  obtain ⟨_, ⟨_, rfl⟩ | ⟨a, _, _, hstep⟩⟩ := step_cases s t h
  · simp
  cases a with
  | host =>
    rw [hostStep_frame_of_locked (s := s.nextTurn) hd hstep]
    simp
  | dma =>
    cases hstep
    rw [dmaStep_frame]
    simp
  | handler | sync =>
    cases hstep
    simp
  | ind =>
    cases hstep
    rw [indStep_frame]
    simp
  | tick =>
    cases hstep
    rw [tickStep_frame]
    simp

end Sys2Proof.Machine
end

section
/-! SUPPORT. The invariant of an IDLE machine, which HOST's writes and DMA_START meet (spec/30_encoding.md
R86; 41_dma.md R131; 70_reset_and_hazards.md R230). -/

namespace Sys2Proof.Machine

variable {s t : State}

/-- The visible stages are down while `flag_src` is (42_sync.md R156). -/
theorem stages_down_of_flag_down (h : s.FlagInv) (hsrc : s.flagSrc = false) :
    s.sync1 = false ∧ s.sync2 = false := by
  obtain ⟨h21, h1s, -⟩ := h
  have h1 : s.sync1 = false := Bool.eq_false_iff.mpr fun e => by simp [h1s e] at hsrc
  exact ⟨h1, Bool.eq_false_iff.mpr fun e => by simp [h21 e] at h1⟩

/-- Before DONE the event and all three stages of the flag are down (42_sync.md R152, R156). -/
theorem flags_down_of_not_done (h : s.FlagInv) (hd : s.dmaState ≠ .done) :
    s.evtRaw = false ∧ s.flagSrc = false ∧ s.sync1 = false ∧ s.sync2 = false := by
  have hflag := h
  obtain ⟨-, -, -, hev, hsrc⟩ := h
  have hdown : s.flagSrc = false := Bool.eq_false_iff.mpr fun e => hd (hsrc e).1
  exact ⟨Bool.eq_false_iff.mpr fun e => hd (hev e).1, hdown, stages_down_of_flag_down hflag hdown⟩

/-- IND is in WAITING while the visible flag is 0 (43_indicator.md R170). -/
theorem waiting_of_not_visible (h : s.IndInv) (h2 : s.sync2 = false) : s.indState = .waiting := by
  obtain ⟨-, hvis, -⟩ := h
  by_contra hne
  simp [hvis hne] at h2

/-- What the invariant says of the block in IDLE: nothing has moved since reset but the configuration. -/
structure State.AtRest (s : State) : Prop where
  dmaState : s.dmaState = .idle
  evtRaw : s.evtRaw = false
  flagSrc : s.flagSrc = false
  sync1 : s.sync1 = false
  sync2 : s.sync2 = false
  handlerCount : s.handlerCount = 0
  rem : s.rem = 0
  curSrc : s.curSrc = 0
  crc : s.crcState = s.crcSeed ∧ s.count = 0 ∧ s.resValid = false ∧ s.resMismatch = false
  indThr : s.indThr ≠ 0
  indState : s.indState = .waiting
  out : s.out = false
  tickCnt : s.tickCnt = 0

theorem atRest_of_inv (h : s.Inv) (hd : s.dmaState = .idle) : s.AtRest := by
  obtain ⟨-, -, hflag, ⟨hidle, -⟩, ⟨hstate, hvalid, -, hmis, -⟩, hind⟩ := h
  obtain ⟨hev, hsrc, h1, h2⟩ := flags_down_of_not_done hflag (by simp [hd])
  have hwait := waiting_of_not_visible hind h2
  obtain ⟨-, -, hcount, -⟩ := hflag
  obtain ⟨hrem, hzero, hcur⟩ := hidle hd
  obtain ⟨hthr, -, hout, -, -, htick⟩ := hind
  have hres : s.resValid = false := by simp [hvalid, hd]
  exact {
    dmaState := hd, evtRaw := hev, flagSrc := hsrc, sync1 := h1, sync2 := h2
    handlerCount := by simp [hcount, hsrc]
    rem := hrem, curSrc := hcur
    crc := ⟨by rw [hstate, hzero]; rfl, hzero, hres,
      Bool.eq_false_iff.mpr fun e => by simp [hmis e] at hres⟩
    indThr := hthr, indState := hwait
    out := hout (.inl hwait)
    tickCnt := htick (by simp [hwait]) }

theorem inv_of_atRest (hp : s.ParamInv) (hh : s.HostInv) (h : s.AtRest) : s.Inv := by
  obtain ⟨hcrc, hzero, hres, hmis⟩ := h.crc
  have hblock : s.crcState = s.blockCrc s.count.toNat := by rw [hcrc, hzero]; rfl
  refine ⟨hp, hh, ?_, ?_, ?_, ?_⟩
  · simp [State.FlagInv, h.evtRaw, h.flagSrc, h.sync1, h.sync2, h.handlerCount]
  · simp [State.DmaInv, h.dmaState, h.rem, h.curSrc, hzero]
  · simp [State.CrcInv, ← hblock, h.dmaState, hres, hmis]
  · exact ⟨h.indThr, by simp [h.indState, h.out, h.tickCnt]⟩

/-- A stored configuration write leaves an IDLE machine at rest: a seed write also restarts the CRC (R93),
and a threshold of 0 is refused (R182). -/
theorem store_atRest {i : Instr} (h : s.AtRest) (hthr : i.reg = .indThr → i.operand ≠ 0) :
    (s.store i).AtRest where
  dmaState := by simp [h.dmaState]
  evtRaw := by simp [h.evtRaw]
  flagSrc := by simp [h.flagSrc]
  sync1 := by simp [h.sync1]
  sync2 := by simp [h.sync2]
  handlerCount := by simp [h.handlerCount]
  rem := by simp [h.rem]
  curSrc := by simp [h.curSrc]
  crc := by
    cases i with
    | wrCrcSeed d => exact ⟨rfl, rfl, rfl, rfl⟩
    | _ => exact h.crc
  indThr := by
    cases i with
    | wrIndThr d => exact hthr rfl
    | _ => exact h.indThr
  indState := by simp [h.indState]
  out := by simp [h.out]
  tickCnt := by simp [h.tickCnt]

/-- HOST's index stays inside its program, and the new entry's index lies before it (30_encoding.md R76). -/
theorem advance_hostInv (h : s.HostInv) (hlt : s.hpc < s.hostProg.length) : s.advance.HostInv :=
  ⟨hlt, fun e he => Nat.lt_succ_of_lt (h.2 e he)⟩

theorem completeRead_hostInv {r : Reg} {v : Word} (h : s.HostInv) (hlt : s.hpc < s.hostProg.length) :
    (s.completeRead r v).HostInv := by
  refine ⟨hlt, fun e he => ?_⟩
  rcases List.mem_append.mp he with he | he
  · exact Nat.lt_succ_of_lt (h.2 e he)
  · obtain rfl := List.mem_singleton.mp he
    exact Nat.lt_succ_self s.hpc

theorem advance_inv (h : s.Inv) (hlt : s.hpc < s.hostProg.length) : s.advance.Inv := by
  obtain ⟨hparam, hhost, hrest⟩ := h
  exact ⟨hparam, advance_hostInv hhost hlt, hrest⟩

/-- An accepted DMA_START (41_dma.md R131): the whole block is left, and its operands are written. -/
theorem startTransfer_inv (h : s.Inv) (hlt : s.hpc < s.hostProg.length)
    (hs : startTransfer s = .ok t) : t.Inv := by
  obtain ⟨hidle, o, ho, hcheck, rfl⟩ := (startTransfer_eq_ok s t).mp hs
  have hrest := atRest_of_inv h hidle
  obtain ⟨hcrc, hzero, hres, hmis⟩ := hrest.crc
  have haccept : s.accepted = true := (accepted_iff s).mpr ⟨o, ho, hcheck⟩
  obtain ⟨hsar, -, -, hblock, -, -, hseed, -⟩ := (startOperands_eq_ok s o).mp ho
  obtain ⟨-, -, hne, -⟩ := (descriptorCheck_eq_none s.params o).mp hcheck
  obtain ⟨hparam, hhost, -, -, ⟨hstate, -⟩, hind⟩ := h
  have hwritten : s.crcState ≠ none := by
    rw [hcrc]
    exact Option.isSome_iff_ne_none.mp hseed
  refine ⟨hparam, advance_hostInv hhost hlt, ?_, ?_, ⟨hstate, ?_⟩, hind⟩
  · simp [State.FlagInv, hrest.evtRaw, hrest.flagSrc, hrest.sync1, hrest.sync2, hrest.handlerCount]
  · refine ⟨by simp, fun _ => ⟨haccept, ?_, ?_⟩, fun _ => hne, by simp⟩
    · simp [State.blockSize, hblock, hzero]
    · simp [hsar, hzero]
  · simp [hres, hmis, hwritten]

/-- EVERY host instruction keeps the invariant, where an element of the program is left. -/
theorem exec_inv {i : Instr} (h : s.Inv) (hlt : s.hpc < s.hostProg.length) (he : exec i s = .next t) :
    t.Inv := by
  rcases exec_cases i s with ⟨c, hc⟩ | ⟨r, v, hv⟩ | ⟨hs, hlock, hthr, -⟩ | ⟨u, hu, hs⟩
  · cases hc.symm.trans he
    exact h
  · cases hv.symm.trans he
    obtain ⟨hparam, hhost, hrest⟩ := h
    exact ⟨hparam, completeRead_hostInv hhost hlt, hrest⟩
  · cases hs.symm.trans he
    by_cases hc : i.reg.isConfig = true
    · refine advance_inv ?_ (by simpa using hlt)
      have hrest := store_atRest (atRest_of_inv h (hlock hc)) hthr
      obtain ⟨hparam, hhost, -⟩ := h
      exact inv_of_atRest (by simpa [State.ParamInv] using hparam)
        (by simpa [State.HostInv] using hhost) hrest
    · rw [store_of_not_config (Bool.eq_false_iff.mpr hc)]
      exact advance_inv h hlt
  · cases hs.symm.trans he
    exact startTransfer_inv h hlt hu

/-- HOST's step keeps the invariant. -/
theorem hostStep_inv (h : s.Inv) (hs : hostStep s = .next t) : t.Inv := by
  cases hop : s.nextOp with
  | none =>
    rw [hostStep, hop] at hs
    cases hs
    exact h
  | some op =>
    have hlt : s.hpc < s.hostProg.length := (List.getElem?_eq_some_iff.mp hop).1
    rcases hostStep_cases s t op hop hs with ⟨-, rfl⟩ | ⟨i, hi⟩ | ⟨o, rfl⟩
    · rcases waitflagStep_cases s with hw | hw | hw <;> rw [hw]
      · exact h
      · exact advance_inv h hlt
      · exact h
    · exact exec_inv h hlt hi
    · exact h

end Sys2Proof.Machine
end

section
/-! SUPPORT. The programmed registers of a run, and the DMA word step of the invariant (spec/41_dma.md R131,
R135; 40_crc.md R106, R109). -/

namespace Sys2Proof.Machine

variable {s t : State}

/-- The CRC of `n` words has read each of them (41_dma.md R137). -/
theorem crcOfBlock_isSome {g : Granularity} {cfg : CrcCfg} {m : Memory} {sar seed : Word} {k n : Nat}
    (hk : k < n) (h : (crcOfBlock g cfg m sar seed n).isSome = true) :
    (blockWord m sar k).isSome = true := by
  induction n with
  | zero => omega
  | succ n ih =>
    cases hc : crcOfBlock g cfg m sar seed n with
    | none => simp [crcOfBlock, hc] at h
    | some c =>
      cases hw : blockWord m sar n with
      | none => simp [crcOfBlock, hc, hw] at h
      | some w =>
        rcases Nat.lt_succ_iff_lt_or_eq.mp hk with hlt | rfl
        · exact ih hlt (by simp [hc])
        · simp [hw]

/-- The registers a run is programmed with, beside LENGTH, which is BLOCK, and DAR, which is fixed. -/
structure RunRegs where
  sar : Word
  ctl : DmaCtl
  block : BitVec 16
  cfg : CrcCfg
  seed : Word
  check : Word

/-- The block's registers hold `p`. -/
structure State.Programmed (s : State) (p : RunRegs) : Prop where
  sar : s.dmaSar = some p.sar
  ctl : s.dmaCtl = some p.ctl
  block : s.dmaBlock = some p.block
  cfg : s.crcCfg = some p.cfg
  seed : s.crcSeed = some p.seed
  check : s.crcCheck = some p.check
  length : s.crcLength = some (p.block.setWidth 32)

/-- DMA_START has tested that the registers are written (R131). -/
theorem exists_programmed (h : s.Inv) (hd : s.dmaState ≠ .idle) : ∃ p, s.Programmed p := by
  obtain ⟨-, -, -, ⟨-, hrun, -⟩, -⟩ := h
  obtain ⟨haccept, -, -⟩ := hrun hd
  obtain ⟨o, ho, hcheck⟩ := (accepted_iff s).mp haccept
  obtain ⟨hsar, -, hctl, hblock, hlen, hcfg, hseed, hchk⟩ := (startOperands_eq_ok s o).mp ho
  obtain ⟨-, -, -, -, -, -, -, -, hlength⟩ := (descriptorCheck_eq_none s.params o).mp hcheck
  obtain ⟨cfg, hcfg⟩ := Option.isSome_iff_exists.mp hcfg
  obtain ⟨seed, hseed⟩ := Option.isSome_iff_exists.mp hseed
  obtain ⟨check, hchk⟩ := Option.isSome_iff_exists.mp hchk
  exact ⟨⟨o.sar, o.ctl, o.block, cfg, seed, check⟩, hsar, hctl, hblock, hcfg, hseed, hchk,
    hlength ▸ hlen⟩

section
variable {p : RunRegs} (hp : s.Programmed p)
include hp

theorem blockCrc_of_programmed (n : Nat) :
    s.blockCrc n = crcOfBlock s.params.refinGranularity p.cfg s.mem p.sar p.seed n :=
  blockCrc_of_written s n p.seed p.sar p.cfg hp.seed hp.cfg hp.sar

/-- The words folded and the words left are the block, and the source is at the word that is next (R135). -/
theorem progress_of_programmed (h : s.Inv) (hd : s.dmaState ≠ .idle) :
    s.count.toNat + s.rem.toNat = p.block.toNat
      ∧ s.mem.readWord s.curSrc = blockWord s.mem p.sar s.count.toNat := by
  obtain ⟨-, -, -, ⟨-, hrun, -⟩, -⟩ := h
  obtain ⟨-, hsize, hcur⟩ := hrun hd
  simp only [State.blockSize, hp.block, hp.sar, Option.map_some, Option.some.injEq] at hsize hcur
  exact ⟨hsize.symm, by simp [blockWord, ← hcur]⟩

end

/-- `s` with one more word folded into the CRC `c`, and words left. -/
def State.wordMoved (s : State) (c : Word) : State :=
  { s with crcState := some c, count := s.count + 1, curSrc := s.curSrc + 4, rem := s.rem - 1 }

/-- `s` with the last word folded: DONE, the event if INT_EN = 1, and the result if AUTOCHK is armed. -/
def State.lastWordMoved (s : State) (p : RunRegs) (c : Word) : State :=
  { s.wordMoved c with
    dmaState := .done
    evtRaw := p.ctl.intEn
    resValid := s.autochk
    resMismatch := s.autochk && crcFinal p.cfg c != p.check }

/-- The latch on written registers (40_crc.md R106). -/
theorem latchResult_of_written {cfg : CrcCfg} {c len check : Word} (hl : s.crcLength = some len)
    (hk : s.crcCheck = some check) : latchResult cfg c s = .ok (if s.autochk = true ∧ s.count = len then
      { s with resMismatch := crcFinal cfg c != check, resValid := true } else s) := by
  rw [latchResult, hl, hk]
  by_cases ha : s.autochk = true <;> by_cases hc : s.count = len <;>
    simp only [ha, hc, written, bind, Except.bind, if_true, if_false, and_true, and_false, reduceCtorEq]

/-- A fold that does not overrun folds, then latches (40_crc.md R106). -/
theorem crcFold_of_written {cfg : CrcCfg} {w c0 : Word} (ho : overrunCheck s = .ok ())
    (hc : s.crcCfg = some cfg) (h0 : s.crcState = some c0) :
    crcFold w s = latchResult cfg (crc32Step c0 (din s.params.refinGranularity cfg w))
      (s.folded cfg c0 w) := by
  simp only [crcFold, ho, hc, h0, written, bind, Except.bind, State.folded]

/-- A word step whose fold raises nothing, on a written DMA_CTL (41_dma.md R135, R136). -/
theorem dmaWord_of_fold {w : Word} {ctl : DmaCtl} (hw : s.mem.readWord s.curSrc = some w)
    (hf : crcFold w s = .ok t) (hc : t.dmaCtl = some ctl) :
    dmaWord s = .ok (if t.rem - 1 = 0 then
      { t with
        curSrc := t.curSrc + 4
        rem := t.rem - 1
        dmaState := .done
        evtRaw := t.evtRaw || ctl.intEn }
      else { t with curSrc := t.curSrc + 4, rem := t.rem - 1 }) := by
  simp only [dmaWord, hw, hf, finishWord, hc, written, bind, Except.bind]
  split_ifs <;> rfl

/-- What a BUSY machine of the invariant holds (R131, R135, R137). -/
structure State.Moving (s : State) (p : RunRegs) : Prop where
  programmed : s.Programmed p
  dmaState : s.dmaState = .busy
  evtRaw : s.evtRaw = false
  resValid : s.resValid = false
  resMismatch : s.resMismatch = false
  rem_pos : 0 < s.rem.toNat
  crc : s.crcState = s.blockCrc s.count.toNat ∧ s.crcState ≠ none
  progress : s.count.toNat + s.rem.toNat = p.block.toNat
  next : s.mem.readWord s.curSrc = blockWord s.mem p.sar s.count.toNat

theorem moving_of_programmed {p : RunRegs} (h : s.Inv) (hp : s.Programmed p) (hb : s.dmaState = .busy) :
    s.Moving p := by
  have hne : s.dmaState ≠ .idle := by simp [hb]
  obtain ⟨hprogress, hnext⟩ := progress_of_programmed hp h hne
  obtain ⟨-, -, hflag, ⟨-, -, hleft, -⟩, ⟨hstate, hvalid, -, hmis, hsome⟩, -⟩ := h
  obtain ⟨hraw, -⟩ := flags_down_of_not_done hflag (by simp [hb])
  have hrem : s.rem ≠ 0 := hleft hb
  have hres : s.resValid = false := by simp [hvalid, hb]
  exact {
    programmed := hp
    dmaState := hb
    evtRaw := hraw
    resValid := hres
    resMismatch := Bool.eq_false_iff.mpr fun e => by simp [hmis e] at hres
    rem_pos := by bv_omega
    crc := ⟨hstate, hsome hne⟩
    progress := hprogress
    next := hnext }

section
variable {p : RunRegs} (h : s.Moving p)
include h

theorem count_succ_toNat : (s.count + 1).toNat = s.count.toNat + 1 := by
  have := h.progress
  have := p.block.isLt
  bv_omega

/-- The count becomes LENGTH exactly with the last word (40_crc.md R106, R109). -/
theorem length_eq_count_succ_iff : p.block.setWidth 32 = s.count + 1 ↔ s.rem = 1 := by
  have := h.progress
  have := p.block.isLt
  bv_omega

/-- No fold of an accepted run passes LENGTH (40_crc.md R109). -/
theorem overrunCheck_of_moving : overrunCheck s = .ok () := by
  have hroom : ¬p.block.setWidth 32 ≤ s.count := by
    have := h.progress
    have := h.rem_pos
    have := p.block.isLt
    bv_omega
  simp [overrunCheck, h.programmed.length, written, bind, Except.bind, hroom]

/-- The fold of the last word latches the result if AUTOCHK is armed (40_crc.md R106). -/
theorem crcFold_of_last {w c0 : Word} (hc0 : s.crcState = some c0) (hlast : s.rem = 1) :
    crcFold w s = .ok { s.folded p.cfg c0 w with
      resMismatch := s.autochk
        && crcFinal p.cfg (crc32Step c0 (din s.params.refinGranularity p.cfg w)) != p.check
      resValid := s.autochk } := by
  have hcount : (s.folded p.cfg c0 w).count = p.block.setWidth 32 :=
    ((length_eq_count_succ_iff h).mpr hlast).symm
  rw [crcFold_of_written (overrunCheck_of_moving h) h.programmed.cfg hc0,
    latchResult_of_written (s := s.folded p.cfg c0 w) h.programmed.length h.programmed.check]
  cases ha : s.autochk with
  | false =>
    rw [if_neg (by simp [State.folded, ha])]
    simp [State.folded, ha, h.resValid, h.resMismatch]
  | true =>
    rw [if_pos ⟨ha, hcount⟩]
    simp

/-- No earlier word's fold latches (40_crc.md R106). -/
theorem crcFold_of_not_last {w c0 : Word} (hc0 : s.crcState = some c0) (hlast : s.rem ≠ 1) :
    crcFold w s = .ok (s.folded p.cfg c0 w) := by
  have hcount : (s.folded p.cfg c0 w).count ≠ p.block.setWidth 32 := fun e =>
    hlast ((length_eq_count_succ_iff h).mp e.symm)
  rw [crcFold_of_written (overrunCheck_of_moving h) h.programmed.cfg hc0,
    latchResult_of_written (s := s.folded p.cfg c0 w) h.programmed.length h.programmed.check,
    if_neg fun e => hcount e.2]

/-- A word step whose word is admitted folds it into the block's CRC, and ends the transfer with the last
word (R135, R136; 40_crc.md R106). -/
theorem dmaWord_of_moving {w : Word} (hw : s.mem.readWord s.curSrc = some w) :
    ∃ c, s.blockCrc (s.count.toNat + 1) = some c
      ∧ dmaWord s = .ok (if s.rem = 1 then s.lastWordMoved p c else s.wordMoved c) := by
  obtain ⟨hstate, hsome⟩ := h.crc
  obtain ⟨c0, hc0⟩ := Option.ne_none_iff_exists'.mp hsome
  have hblock := blockCrc_of_programmed h.programmed
  refine ⟨crc32Step c0 (din s.params.refinGranularity p.cfg w), ?_, ?_⟩
  · rw [hblock]
    exact crcOfBlock_succ _ _ _ _ _ c0 w _ (by rw [← hblock, ← hstate, hc0]) (h.next ▸ hw)
  · by_cases hlast : s.rem = 1
    · rw [if_pos hlast, dmaWord_of_fold hw (crcFold_of_last h hc0 hlast) h.programmed.ctl]
      refine congrArg _ ((if_pos (sub_eq_zero.mpr hlast)).trans ?_)
      simp [State.lastWordMoved, State.wordMoved, State.folded, h.evtRaw]
    · rw [if_neg hlast, dmaWord_of_fold hw (crcFold_of_not_last h hc0 hlast) h.programmed.ctl]
      exact congrArg _ (if_neg (sub_ne_zero.mpr hlast))

end

end Sys2Proof.Machine
end

section
/-! SUPPORT. Every agent's step keeps the invariant (spec/60_exceptions.md R204). -/

namespace Sys2Proof.Machine

variable {s t : State}

section
variable {p : RunRegs} {c : Word} (h : s.Inv) (hm : s.Moving p)
  (hc : s.blockCrc (s.count.toNat + 1) = some c)
include h hm

/-- After a word step the words folded and the words left are the block again (41_dma.md R135). -/
theorem moved_progress : s.blockSize = some ((s.count + 1).toNat + (s.rem - 1).toNat)
    ∧ s.dmaSar.map (· + 4 * (s.count + 1)) = some (s.curSrc + 4) := by
  obtain ⟨-, -, -, ⟨-, hrun, -⟩, -⟩ := h
  obtain ⟨-, -, hcur⟩ := hrun (by simp [hm.dmaState])
  have hcount := count_succ_toNat hm
  have hprogress := hm.progress
  have hrem := hm.rem_pos
  constructor
  · simp only [State.blockSize, hm.programmed.block, Option.map_some, Option.some.injEq, hcount]
    bv_omega
  · simp only [hm.programmed.sar, Option.map_some, Option.some.injEq] at hcur ⊢
    rw [← hcur]
    ring

include hc

theorem wordMoved_inv (hlast : s.rem ≠ 1) : (s.wordMoved c).Inv := by
  obtain ⟨hsize, hcur⟩ := moved_progress h hm
  obtain ⟨hparam, hhost, hflag, ⟨-, hrun, -⟩, -, hind⟩ := h
  obtain ⟨haccept, -, -⟩ := hrun (by simp [hm.dmaState])
  have hcrc : some c = s.blockCrc (s.count + 1).toNat := by rw [count_succ_toNat hm, hc]
  refine ⟨hparam, hhost, hflag, ?_, ⟨hcrc, ?_⟩, hind⟩
  · refine ⟨?_, fun _ => ⟨haccept, hsize, hcur⟩, fun _ => sub_ne_zero.mpr hlast, ?_⟩ <;>
      simp [State.wordMoved, hm.dmaState]
  · simp [State.wordMoved, hm.dmaState, hm.resValid, hm.resMismatch]

theorem lastWordMoved_inv (hlast : s.rem = 1) : (s.lastWordMoved p c).Inv := by
  obtain ⟨hsize, hcur⟩ := moved_progress h hm
  obtain ⟨hparam, hhost, hflag, ⟨-, hrun, -⟩, -, hind⟩ := h
  obtain ⟨haccept, -, -⟩ := hrun (by simp [hm.dmaState])
  obtain ⟨-, hsrc, h1, h2⟩ := flags_down_of_not_done hflag (by simp [hm.dmaState])
  have hwait := waiting_of_not_visible hind h2
  obtain ⟨-, -, hcount, -⟩ := hflag
  obtain ⟨hthr, -, hout, -, -, htick⟩ := hind
  have hcrc : some c = s.blockCrc (s.count + 1).toNat := by rw [count_succ_toNat hm, hc]
  have hverdict : (s.lastWordMoved p c).mismatchOf (some c) = some (crcFinal p.cfg c != p.check) := by
    simp [State.mismatchOf, State.lastWordMoved, State.wordMoved, hm.programmed.cfg,
      hm.programmed.check]
  refine ⟨hparam, hhost, ?_, ?_, ⟨hcrc, by simp [State.lastWordMoved, State.wordMoved], ?_⟩, ?_⟩
  · simp [State.FlagInv, State.lastWordMoved, State.wordMoved, hsrc, h1, h2, hcount]
  · exact ⟨by simp [State.lastWordMoved], fun _ => ⟨haccept, hsize, hcur⟩,
      by simp [State.lastWordMoved], fun _ => sub_eq_zero.mpr hlast⟩
  · refine ⟨fun ha => hverdict.trans ?_, ?_, fun _ => by simp [State.lastWordMoved, State.wordMoved]⟩
    · simp only [State.lastWordMoved] at ha ⊢
      simp [ha]
    · simp only [State.lastWordMoved, Bool.and_eq_true]
      exact fun e => e.1
  · refine ⟨hthr, ?_⟩
    simp [State.lastWordMoved, State.wordMoved, hwait, hout (.inl hwait), htick (by simp [hwait])]

end

/-- DMA's step: F_MEM over the state as it was, or a word of the block (41_dma.md R135). -/
theorem dmaStep_inv (h : s.Inv) (hb : s.dmaState = .busy) : (dmaStep s).Inv := by
  obtain ⟨p, hp⟩ := exists_programmed h (by simp [hb])
  have hm := moving_of_programmed h hp hb
  rcases dmaStep_cases s with ⟨t, ht, he⟩ | ⟨c, -, he⟩ <;> rw [he]
  · obtain ⟨w, -, hw, -, -⟩ := dmaWord_ok s t ht
    obtain ⟨c, hc, hmove⟩ := dmaWord_of_moving hm hw
    cases hmove.symm.trans ht
    split_ifs with hlast
    · exact lastWordMoved_inv h hm hc hlast
    · exact wordMoved_inv h hm hc hlast
  · exact h

/-- HANDLER runs on the event, so once, after the last word (42_sync.md R151, R152). -/
theorem handlerStep_inv (h : s.Inv) (hirq : s.irq = true) : (handlerStep s).Inv := by
  obtain ⟨hparam, hhost, ⟨h21, h1s, hcount, hev, -⟩, hrest⟩ := h
  obtain ⟨hraw, hen⟩ : s.evtRaw = true ∧ s.evtEn = true := by simpa [State.irq] using hirq
  obtain ⟨hdone, hsrc⟩ := hev hraw
  refine ⟨hparam, hhost, ⟨h21, ?_⟩, hrest⟩
  simp [hcount, hsrc, hdone, hen]

/-- A SYNC step moves the stages up and never down, so IND still sees the flag (42_sync.md R155, R156). -/
theorem syncStep_inv (h : s.Inv) : (syncStep s).Inv := by
  obtain ⟨hparam, hhost, ⟨h21, h1s, hflag⟩, hdma, hcrc, hthr, hvis, hind⟩ := h
  exact ⟨hparam, hhost, ⟨h1s, id, hflag⟩, hdma, hcrc, hthr, fun hne => h21 (hvis hne), hind⟩

/-- IND leaves WAITING with the flag visible (43_indicator.md R170). -/
theorem indSee_inv (h : s.Inv) (hi : s.indState = .waiting) (h2 : s.sync2 = true) : (indSee s).Inv := by
  obtain ⟨hparam, hhost, hflag, hdma, hcrc, hthr, -, hout, -, -, htick⟩ := h
  refine ⟨hparam, hhost, hflag, hdma, hcrc, hthr, ?_⟩
  simp [h2, hout (.inl hi), htick (by simp [hi])]

/-- The verdict is the latched result, and the ticker starts at 0 (43_indicator.md R172). -/
theorem indCheck_inv (h : s.Inv) (hi : s.indState = .checking) : (indCheck s).Inv := by
  have hinv := h
  obtain ⟨hparam, hhost, hflag, hdma, hcrc, hthr, hvis, -, -, -, htick⟩ := h
  have h2 := hvis (by simp [hi])
  have hpos : 0 < s.indThr := by bv_omega
  unfold indCheck
  split_ifs with hres hmis
  · refine ⟨hparam, hhost, hflag, hdma, hcrc, hthr, ?_⟩
    simpa [h2, hres, hmis] using hpos
  · refine ⟨hparam, hhost, hflag, hdma, hcrc, hthr, ?_⟩
    simp [h2, hres, hmis, htick (by simp [hi])]
  · exact hinv

theorem indStep_inv (h : s.Inv) (hready : s.indReady = true) : (indStep s).Inv := by
  unfold indStep
  cases hi : s.indState with
  | waiting => exact indSee_inv h hi (by simpa [State.indReady, hi] using hready)
  | checking => exact indCheck_inv h hi
  | verified | mismatchBlink => exact h

/-- The tick count stays below the threshold (43_indicator.md R178). -/
theorem tickStep_inv (h : s.Inv) (harmed : s.armed = true) : (tickStep s).Inv := by
  obtain ⟨hparam, hhost, hflag, hdma, hcrc, hthr, hvis, -, -, hblink, -⟩ := h
  have hi : s.indState = .mismatchBlink := by simpa [State.armed] using harmed
  obtain ⟨hres, hmis, hlt⟩ := hblink hi
  have hpos : 0 < s.indThr := by bv_omega
  unfold tickStep
  split_ifs with hwrap
  · refine ⟨hparam, hhost, hflag, hdma, hcrc, hthr, hvis, ?_⟩
    simpa [hi, hres, hmis] using hpos
  · have hnext : s.tickCnt + 1 < s.indThr := by bv_omega
    refine ⟨hparam, hhost, hflag, hdma, hcrc, hthr, hvis, ?_⟩
    simpa [hi, hres, hmis] using hnext

/-- EVERY agent's step keeps the invariant, where the agent is enabled. -/
theorem agentStep_inv {a : Agent} (h : s.Inv) (he : s.enabled a = true) (hs : agentStep a s = .next t) :
    t.Inv := by
  obtain ⟨-, he⟩ := Bool.and_eq_true_iff.mp he
  cases a with
  | host => exact hostStep_inv h hs
  | dma =>
    cases hs
    exact dmaStep_inv h (by simpa using he)
  | handler =>
    cases hs
    exact handlerStep_inv h he
  | sync =>
    cases hs
    exact syncStep_inv h
  | ind =>
    cases hs
    exact indStep_inv h he
  | tick =>
    cases hs
    exact tickStep_inv h he

end Sys2Proof.Machine
end

section
/-! SUPPORT. Runs of the machine with one agent enabled at a time. -/

namespace Sys2Proof.Machine

variable {s t u : State} {p : RunRegs} {c : Word}

/-- The only enabled agent moves, under every schedule (60_exceptions.md R204). -/
theorem step_of_sole_enabled {a : Agent} (h : ∀ b, s.enabled b = true ↔ b = a) :
    step s = agentStep a s.nextTurn := by
  have ha : s.enabled a = true := (h a).mpr rfl
  have hchoose : s.chooseAgent = some a := by
    cases hb : s.chooseAgent with
    | none =>
      have hmem := (mem_enabledAgents s a).mpr ha
      simp [(chooseAgent_eq_none s).mp hb] at hmem
    | some b => rw [(h b).mp (chooseAgent_enabled s b hb)]
  rw [step, machineStep, enabled_fault s a ha, hchoose]

/-- A run of `k + 1` steps is its first step and a run of `k`. -/
theorem run_succ_of_step {M : Host.Core} {s t : M.State} (h : M.step s = .next t) (k : Nat) :
    M.run (k + 1) s = M.run k t := by
  rw [Host.Core.run, h]

/-- A run towards a verdict with HOST finished: no fault, AUTOCHK, INT_EN and EN set, and the whole block,
whose running CRC is `c`, admitted. -/
structure State.Unattended (s : State) (p : RunRegs) (c : Word) : Prop where
  inv : s.Inv
  fault : s.fault = none
  hostDone : s.hpc = s.hostProg.length
  autochk : s.autochk = true
  evtEn : s.evtEn = true
  programmed : s.Programmed p
  intEn : p.ctl.intEn = true
  crc : s.blockCrc p.block.toNat = some c

theorem hostReady_of_unattended (h : s.Unattended p c) : s.hostReady = false :=
  hostReady_of_finished h.hostDone.ge

theorem nextTurn_unattended (h : s.Unattended p c) : s.nextTurn.Unattended p c where
  inv := h.inv
  fault := h.fault
  hostDone := h.hostDone
  autochk := h.autochk
  evtEn := h.evtEn
  programmed := ⟨h.programmed.sar, h.programmed.ctl, h.programmed.block, h.programmed.cfg,
    h.programmed.seed, h.programmed.check, h.programmed.length⟩
  intEn := h.intEn
  crc := h.crc

/-- A word step keeps all that a run is programmed with (10_state.md R30). -/
theorem dmaStep_unattended (h : s.Unattended p c) (hb : s.dmaState = .busy)
    (hf : (dmaStep s).fault = none) : (dmaStep s).Unattended p c where
  inv := dmaStep_inv h.inv hb
  fault := hf
  hostDone := by rw [dmaStep_frame]; exact h.hostDone
  autochk := by rw [dmaStep_frame]; exact h.autochk
  evtEn := by rw [dmaStep_frame]; exact h.evtEn
  programmed := by
    rw [dmaStep_frame]
    exact ⟨h.programmed.sar, h.programmed.ctl, h.programmed.block, h.programmed.cfg,
      h.programmed.seed, h.programmed.check, h.programmed.length⟩
  intEn := h.intEn
  crc := by rw [dmaStep_frame]; exact h.crc

/-- The next word of an unattended run is admitted, so its step moves it (41_dma.md R135). -/
theorem dmaStep_of_unattended (h : s.Unattended p c) (hb : s.dmaState = .busy) :
    ∃ d, (s.rem = 1 → dmaStep s = s.lastWordMoved p d)
      ∧ (s.rem ≠ 1 → dmaStep s = s.wordMoved d) := by
  have hm := moving_of_programmed h.inv h.programmed hb
  have hlt : s.count.toNat < p.block.toNat := by
    have := hm.progress
    have := hm.rem_pos
    omega
  have hsome : (blockWord s.mem p.sar s.count.toNat).isSome = true :=
    crcOfBlock_isSome hlt (by rw [← blockCrc_of_programmed h.programmed, h.crc]; rfl)
  obtain ⟨w, hw⟩ := Option.isSome_iff_exists.mp hsome
  obtain ⟨d, -, hd⟩ := dmaWord_of_moving hm (hm.next.trans hw)
  exact ⟨d, fun hlast => by rw [dmaStep, hd, if_pos hlast]; rfl,
    fun hlast => by rw [dmaStep, hd, if_neg hlast]; rfl⟩

/-- While BUSY, DMA alone has a step. -/
theorem enabled_of_unattended_busy (h : s.Unattended p c) (hb : s.dmaState = .busy) (b : Agent) :
    s.enabled b = true ↔ b = .dma := by
  obtain ⟨-, -, hflag, -, -, hind⟩ := h.inv
  obtain ⟨hraw, hsrc, h1, h2⟩ := flags_down_of_not_done hflag (by simp [hb])
  have hwait := waiting_of_not_visible hind h2
  cases b <;> simp [State.enabled, h.fault, hostReady_of_unattended h, hb, State.irq, hraw, hsrc, h1, h2,
    State.indReady, State.armed, hwait]

/-- Each word step of an unattended run is the machine's next, and the last one raises the event
(41_dma.md R135, R136, R140). -/
theorem step_of_unattended_busy (h : s.Unattended p c) (hb : s.dmaState = .busy) :
    ∃ t, step s = .next t ∧ t.Unattended p c
      ∧ (s.rem = 1 → t.dmaState = .done ∧ t.evtRaw = true)
      ∧ (s.rem ≠ 1 → t.dmaState = .busy ∧ t.rem = s.rem - 1) := by
  have hturn := nextTurn_unattended h
  obtain ⟨d, hlast, hmore⟩ := dmaStep_of_unattended hturn hb
  have hstep := step_of_sole_enabled (enabled_of_unattended_busy h hb)
  by_cases h1 : s.rem = 1
  · have he := hlast h1
    exact ⟨_, hstep, dmaStep_unattended hturn hb (by rw [he]; exact h.fault),
      fun _ => by rw [he]; exact ⟨rfl, h.intEn⟩, fun hne => absurd h1 hne⟩
  · have he := hmore h1
    exact ⟨_, hstep, dmaStep_unattended hturn hb (by rw [he]; exact h.fault),
      fun heq => absurd heq h1, fun _ => by rw [he]; exact ⟨hb, rfl⟩⟩

/-- The words that are left are the next steps of an unattended run. -/
theorem run_words_of_unattended (k : Nat) (h : s.Unattended p c) (hb : s.dmaState = .busy)
    (hk : s.rem.toNat = k + 1) (n : Nat) :
    ∃ t, Host.Core.run Sys2Proof.core (k + 1 + n) s = Host.Core.run Sys2Proof.core n t
      ∧ t.Unattended p c ∧ t.dmaState = .done ∧ t.evtRaw = true := by
  induction k generalizing s with
  | zero =>
    obtain ⟨u, hstep, hu, hlast, -⟩ := step_of_unattended_busy h hb
    refine ⟨u, ?_, hu, hlast (by bv_omega)⟩
    rw [Nat.zero_add, Nat.add_comm]
    exact run_succ_of_step hstep n
  | succ k ih =>
    obtain ⟨u, hstep, hu, -, hmore⟩ := step_of_unattended_busy h hb
    obtain ⟨hbusy, hrem⟩ := hmore (by bv_omega)
    obtain ⟨t, ht, hrest⟩ := ih hu hbusy (by bv_omega)
    refine ⟨t, ?_, hrest⟩
    rw [← ht, Nat.add_right_comm (k + 1)]
    exact run_succ_of_step hstep (k + 1 + n)

/-- The engine DONE, HOST finished, the event at `raw`, the flag's stages at `src`, `s1` and `s2`, IND in
`i` with the output inactive, and the mismatch result latched as `m`. -/
structure State.Signalling (s : State) (raw src s1 s2 : Bool) (i : IndState) (m : Bool) : Prop where
  fault : s.fault = none
  hostDone : s.hpc = s.hostProg.length
  dmaState : s.dmaState = .done
  evtEn : s.evtEn = true
  evtRaw : s.evtRaw = raw
  flagSrc : s.flagSrc = src
  sync1 : s.sync1 = s1
  sync2 : s.sync2 = s2
  indState : s.indState = i
  out : s.out = false
  resValid : s.resValid = true
  resMismatch : s.resMismatch = m

/-- Which agents have a step between DONE and the verdict. -/
def signalReady (raw src s1 s2 : Bool) (i : IndState) : Agent → Bool
  | .host => false
  | .dma => false
  | .handler => raw
  | .sync => s1 != src || s2 != s1
  | .ind => i == .waiting && s2 || i == .checking
  | .tick => i == .mismatchBlink

section
variable {raw src s1 s2 m : Bool} {i : IndState}

theorem enabled_of_signalling (h : s.Signalling raw src s1 s2 i m) (b : Agent) :
    s.enabled b = signalReady raw src s1 s2 i b := by
  have hready : s.hostReady = false := hostReady_of_finished h.hostDone.ge
  cases b with
  | ind => cases i <;> simp [State.enabled, h.fault, State.indReady, h.indState, h.sync2, signalReady]
  | _ =>
    simp [State.enabled, h.fault, hready, h.dmaState, State.irq, h.evtRaw, h.evtEn, h.flagSrc, h.sync1,
      h.sync2, State.armed, h.indState, signalReady]

/-- The one agent that is ready moves. -/
theorem step_of_signalling {a : Agent} (h : s.Signalling raw src s1 s2 i m)
    (ha : ∀ b, signalReady raw src s1 s2 i b = true ↔ b = a) : step s = agentStep a s.nextTurn :=
  step_of_sole_enabled fun b => by rw [enabled_of_signalling h, ha]

theorem step_handler_of_signalling (h : s.Signalling true false false false .waiting m) :
    ∃ t, step s = .next t ∧ t.Signalling false true false false .waiting m := by
  have hstep := step_of_signalling (a := .handler) h (by intro b; cases b <;> decide)
  exact ⟨_, hstep, h.fault, h.hostDone, h.dmaState, h.evtEn, rfl, rfl, h.sync1, h.sync2, h.indState,
    h.out, h.resValid, h.resMismatch⟩

theorem step_sync_of_signalling (h : s.Signalling false true s1 false .waiting m) :
    ∃ t, step s = .next t ∧ t.Signalling false true true s1 .waiting m := by
  have hstep := step_of_signalling (a := .sync) h (by intro b; cases b <;> cases s1 <;> decide)
  exact ⟨_, hstep, h.fault, h.hostDone, h.dmaState, h.evtEn, h.evtRaw, h.flagSrc, h.flagSrc, h.sync1,
    h.indState, h.out, h.resValid, h.resMismatch⟩

theorem step_see_of_signalling (h : s.Signalling false true true true .waiting m) :
    ∃ t, step s = .next t ∧ t.Signalling false true true true .checking m := by
  have hstep := step_of_signalling (a := .ind) h (by intro b; cases b <;> decide)
  have hsee : indStep s.nextTurn = indSee s.nextTurn := by simp [indStep, h.indState]
  exact ⟨indSee s.nextTurn, hstep.trans (congrArg _ hsee), h.fault, h.hostDone, h.dmaState, h.evtEn,
    h.evtRaw, h.flagSrc, h.sync1, h.sync2, rfl, h.out, h.resValid, h.resMismatch⟩

/-- The verdict is the latched result (43_indicator.md R172), and only the tick is left (R219). -/
theorem step_check_of_signalling (h : s.Signalling false true true true .checking m) :
    ∃ t, step s = .next t
      ∧ (m = false → t.finalVerified = true ∧ t.out = true)
      ∧ (m = true → t.settledMismatch = true ∧ t.out = false ∧ t.tickCnt = 0) := by
  have hstep := step_of_signalling (a := .ind) h (by intro b; cases b <;> decide)
  have hcheck : indStep s.nextTurn = indCheck s.nextTurn := by simp [indStep, h.indState]
  refine ⟨indCheck s.nextTurn, hstep.trans (congrArg _ hcheck), fun hm => ?_, fun hm => ?_⟩
  · simp [indCheck, h.resValid, h.resMismatch, hm, State.finalVerified, State.settledIn, State.hostDone,
      h.fault, h.hostDone, h.dmaState, h.evtRaw, h.flagSrc, h.sync1, h.sync2]
  · simp [indCheck, h.resValid, h.resMismatch, hm, State.settledMismatch, State.settledIn, State.hostDone,
      h.fault, h.hostDone, h.dmaState, h.evtRaw, h.flagSrc, h.sync1, h.sync2, h.out]

/-- HANDLER, SYNC twice, IND_SEE and IND_CHECK are the five steps to the verdict (60_exceptions.md R220). -/
theorem run_to_verdict (h : s.Signalling true false false false .waiting m) :
    ∃ t, Host.Core.run Sys2Proof.core 5 s = .next t
      ∧ (m = false → t.finalVerified = true ∧ t.out = true)
      ∧ (m = true → t.settledMismatch = true ∧ t.out = false ∧ t.tickCnt = 0) := by
  obtain ⟨t1, hs1, h1⟩ := step_handler_of_signalling h
  obtain ⟨t2, hs2, h2⟩ := step_sync_of_signalling h1
  obtain ⟨t3, hs3, h3⟩ := step_sync_of_signalling h2
  obtain ⟨t4, hs4, h4⟩ := step_see_of_signalling h3
  obtain ⟨t5, hs5, hverdict⟩ := step_check_of_signalling h4
  refine ⟨t5, ?_, hverdict⟩
  calc Host.Core.run Sys2Proof.core 5 s
      = Host.Core.run Sys2Proof.core 4 t1 := run_succ_of_step hs1 4
    _ = Host.Core.run Sys2Proof.core 3 t2 := run_succ_of_step hs2 3
    _ = Host.Core.run Sys2Proof.core 2 t3 := run_succ_of_step hs3 2
    _ = Host.Core.run Sys2Proof.core 1 t4 := run_succ_of_step hs4 1
    _ = Host.Core.run Sys2Proof.core 0 t5 := run_succ_of_step hs5 0
    _ = .next t5 := rfl

end

/-- With the transfer ended, the latched result is that of the whole block (40_crc.md R106; 41_dma.md
R137). -/
theorem signalling_of_unattended (h : s.Unattended p c) (hd : s.dmaState = .done) (hraw : s.evtRaw = true) :
    s.Signalling true false false false .waiting (crcFinal p.cfg c != p.check) := by
  obtain ⟨-, -, hflag, ⟨-, -, -, hzero⟩, ⟨hstate, hvalid, hres, -⟩, hind⟩ := h.inv
  obtain ⟨hprogress, -⟩ := progress_of_programmed h.programmed h.inv (by simp [hd])
  have hevent := hflag
  obtain ⟨-, -, -, hev, -⟩ := hevent
  obtain ⟨-, hsrc⟩ := hev hraw
  obtain ⟨h1, h2⟩ := stages_down_of_flag_down hflag hsrc
  have hwait := waiting_of_not_visible hind h2
  obtain ⟨-, -, hout, -⟩ := hind
  have hcount : s.count.toNat = p.block.toNat := by simpa [hzero hd] using hprogress
  have hlatched : s.resValid = true := by simp [hvalid, hd, h.autochk]
  have hmis := hres hlatched
  rw [hstate, hcount, h.crc, State.mismatchOf, h.programmed.cfg, h.programmed.check] at hmis
  exact ⟨h.fault, h.hostDone, hd, h.evtEn, hraw, hsrc, h1, h2, hwait, hout (.inl hwait), hlatched,
    (Option.some.inj hmis).symm⟩

end Sys2Proof.Machine
end

section
/-! SUPPORT. Reads (spec/20_memory.md R55). -/

namespace Sys2Proof.Machine

variable {i : Instr} {s : State} {v : Word}

/-- EVERY instruction answers a next state. -/
theorem exists_exec_next (i : Instr) (s : State) : ∃ t, exec i s = .next t := by
  rcases exec_cases i s with ⟨c, h⟩ | ⟨r, v, h⟩ | ⟨h, -⟩ | ⟨t, -, h⟩ <;> exact ⟨_, h⟩

/-- A completed read, repeated at once, completes with the same value: the index and the log are no
register's value (R55). -/
theorem exec_read_again (hi : i.dataWord = none) (h : exec i s = .next (s.completeRead i.reg v)) :
    exec i (s.completeRead i.reg v) = .next ((s.completeRead i.reg v).completeRead i.reg v) := by
  cases i with
  | rdCrcCfg | rdCrcSeed | rdCrcCheck | rdCrcLength | rdCrcRes | rdDmaSar | rdDmaDar | rdDmaCtl
    | rdDmaBlock =>
    have hv := readStored_eq_completeRead (Host.Outcome.next.inj h)
    exact congrArg (fun x => Host.Outcome.next (readStored _ x (s.completeRead _ v))) hv
  | rdCrcCtrl | rdCrcCnt | rdDmaEvten | rdDmaSts | rdDmaRem | rdIndSts | rdIndTcnt | rdIndThr =>
    obtain rfl := completeRead_inj (Host.Outcome.next.inj h)
    rfl
  | rdCrcSts =>
    by_cases hr : s.resultReadable = true
    · obtain rfl := completeRead_inj ((if_pos hr).symm.trans (Host.Outcome.next.inj h))
      exact congrArg _ (if_pos hr)
    · exact absurd ((if_neg hr).symm.trans (Host.Outcome.next.inj h)) raise_ne_completeRead
  | rdSyncSts =>
    by_cases hd : s.dmaState = .idle
    · exact absurd ((if_pos hd).symm.trans (Host.Outcome.next.inj h)) raise_ne_completeRead
    · obtain rfl := completeRead_inj ((if_neg hd).symm.trans (Host.Outcome.next.inj h))
      exact congrArg _ (if_neg hd)
  | _ => cases hi

end Sys2Proof.Machine
end

section
/-! PROOFS. The invariant, the bounded run to the verdict, and the reads. -/

namespace Sys2Proof.Machine

/-- Settles O55, agent by agent: the invariant speaks of neither the record nor the turn. -/
theorem stepKeepsInvariant : Obligations.StepKeepsInvariant := by
  unfold Obligations.StepKeepsInvariant
  intro s t h hs
  obtain ⟨-, ⟨-, rfl⟩ | ⟨a, -, he, hstep⟩⟩ := step_cases s t hs
  · exact h
  · exact agentStep_inv (s := s.nextTurn) h he hstep

/-- Settles O32: a read completes or faults, and what it reads does not depend on what it changes. -/
theorem readsHaveNoSideEffects : Obligations.ReadsHaveNoSideEffects := by
  unfold Obligations.ReadsHaveNoSideEffects
  constructor
  · intro i s hread
    obtain ⟨t, h⟩ := exists_exec_next i s
    rcases exec_read_cases hread h with ⟨c, rfl⟩ | ⟨v, rfl⟩
    · exact .inr ⟨c.code, c.info, h⟩
    · exact .inl ⟨v, h⟩
  · rintro i s t v hread h rfl
    exact exec_read_again hread h

/-- Settles O56: the words that are left end the transfer, and five steps signal its result. -/
theorem runReachesVerdictInBoundedSteps : Obligations.RunReachesVerdictInBoundedSteps := by
  unfold Obligations.RunReachesVerdictInBoundedSteps
  intro s ctl cfg n check c hinv hf hhost hb ha hen hctl hint hcfg hcheck hblock hcrc
  obtain ⟨p, hp⟩ := exists_programmed hinv (by simp [hb])
  have hm := moving_of_programmed hinv hp hb
  obtain rfl : p.ctl = ctl := Option.some.inj (hp.ctl.symm.trans hctl)
  obtain rfl : p.cfg = cfg := Option.some.inj (hp.cfg.symm.trans hcfg)
  obtain rfl : p.check = check := Option.some.inj (hp.check.symm.trans hcheck)
  obtain rfl : p.block = n := Option.some.inj (hp.block.symm.trans hblock)
  have hrun : s.Unattended p c := ⟨hinv, hf, hhost, ha, hen, hp, hint, hcrc⟩
  obtain ⟨k, hk⟩ := Nat.exists_eq_add_of_lt hm.rem_pos
  rw [Nat.zero_add] at hk
  obtain ⟨u, hu, hrest, hdone, hraw⟩ := run_words_of_unattended k hrun hb hk 5
  obtain ⟨t, ht, hmatch, hmismatch⟩ := run_to_verdict (signalling_of_unattended hrest hdone hraw)
  refine ⟨t, by rw [hk, hu, ht], fun heq => hmatch ?_, fun hne => hmismatch ?_⟩
  · simpa using heq
  · simpa using hne

/-- Settles O50: the visible flag is up only after DONE, where no word is left. -/
theorem visibleFlagMeansBlockFolded : Obligations.VisibleFlagMeansBlockFolded := by
  unfold Obligations.VisibleFlagMeansBlockFolded
  intro s h h2
  obtain ⟨-, -, ⟨h21, h1s, -, -, hsrc⟩, ⟨-, hrun, -, hzero⟩, ⟨hstate, hvalid, -⟩, -⟩ := h
  obtain ⟨hd, -⟩ := hsrc (h1s (h21 h2))
  obtain ⟨-, hsize, -⟩ := hrun (by simp [hd])
  exact ⟨hd, by simpa [hzero hd] using hsize, by simpa [hd] using hvalid, hstate⟩

end Sys2Proof.Machine
end

section
/-! SUPPORT. The decoder (spec/30_encoding.md R71, R72, R80, R82): the fields of an op word, what it decodes
to, and the words of a host operation. -/

namespace Sys2Proof.Machine

variable {o : OpWord} {d : Word} {i : Instr} {r : Reg} {s : State}

theorem Reg.atOffset_eq_some {off : Offset} : Reg.atOffset off = some r ↔ r.offset = off := by
  constructor
  · intro h
    simpa using List.find?_some h
  · rintro rfl
    cases r <;> rfl

/-- A register's write is the instruction on it that carries the data word. -/
theorem writeInstr_eq_some : writeInstr d r = some i ↔ i.reg = r ∧ i.dataWord = some d := by
  constructor
  · intro h
    cases r <;> cases h <;> exact ⟨rfl, rfl⟩
  · rintro ⟨rfl, h⟩
    cases i <;> cases h <;> rfl

/-- A register's read is the instruction on it that carries no data word. -/
theorem readInstr_eq_some : readInstr r = some i ↔ i.reg = r ∧ i.dataWord = none := by
  constructor
  · intro h
    cases r <;> cases h <;> exact ⟨rfl, rfl⟩
  · rintro ⟨rfl, h⟩
    cases i <;> cases h <;> rfl

/-- The checks of R72, and the register and the direction they leave. -/
theorem decode_eq_ok_iff_fields : decode o d = .ok i ↔ o.extractLsb' 12 3 = 0 ∧ o.extractLsb' 0 2 = 0
    ∧ i.reg.offset = o.extractLsb' 0 12 ∧ i.dataWord = if o.getLsbD 15 then some d else none := by
  rw [← Reg.atOffset_eq_some]
  unfold decode
  by_cases hz : o.extractLsb' 12 3 = 0
  case neg =>
    rw [if_pos hz]
    exact iff_of_false nofun fun ⟨h, _⟩ => hz h
  by_cases ha : o.extractLsb' 0 2 = 0
  case neg =>
    rw [if_neg (not_not_intro hz), if_pos ha]
    exact iff_of_false nofun fun ⟨_, h, _⟩ => ha h
  rw [if_neg (not_not_intro hz), if_neg (not_not_intro ha)]
  cases Reg.atOffset (o.extractLsb' 0 12) with
  | none => exact iff_of_false nofun fun ⟨_, _, h, _⟩ => nomatch h
  | some r =>
    simp only [hz, ha, true_and, Option.some_inj, eq_comm (a := r)]
    cases o.getLsbD 15
    · rw [if_neg (by decide), if_neg (by decide), ← readInstr_eq_some]
      cases readInstr r <;> simp
    · rw [if_pos rfl, if_pos rfl, ← writeInstr_eq_some]
      cases writeInstr d r <;> simp

open Laws.OpWordShape in
/-- EVERY instruction's op word has the shape of R71 and R82. -/
theorem opWordShape (i : Instr) : Statement i :=
  Instr.rec wrCrcCfg rdCrcCfg wrCrcSeed rdCrcSeed wrCrcCheck rdCrcCheck wrCrcLength rdCrcLength
    wrCrcCtrl rdCrcCtrl wrCrcIr rdCrcSts rdCrcRes rdCrcCnt wrDmaSar rdDmaSar wrDmaDar rdDmaDar wrDmaCtl
    rdDmaCtl wrDmaBlock rdDmaBlock wrDmaEvten rdDmaEvten wrDmaStart rdDmaSts wrDmaEvtclr rdDmaRem
    wrSyncSet rdSyncSts rdIndSts rdIndTcnt wrIndThr rdIndThr i

/-- An op word is its three fields (R71). -/
theorem opWord_ext {o' : OpWord} (hbit : o.getLsbD 15 = o'.getLsbD 15)
    (hz : o.extractLsb' 12 3 = o'.extractLsb' 12 3) (hoff : o.extractLsb' 0 12 = o'.extractLsb' 0 12) :
    o = o' := by
  apply BitVec.eq_of_getLsbD_eq
  intro k hk
  by_cases hlow : k < 12
  · simpa [hlow] using congrArg (BitVec.getLsbD · k) hoff
  · obtain ⟨j, rfl⟩ := Nat.exists_eq_add_of_le (Nat.le_of_not_lt hlow)
    by_cases hmid : j < 3
    · simpa [hmid] using congrArg (BitVec.getLsbD · j) hz
    · obtain rfl : j = 3 := by omega
      exact hbit

/-- R71's fields of an instruction's op word. -/
theorem opWord_eq_iff : i.opWord = o ↔ o.getLsbD 15 = i.dataWord.isSome ∧ o.extractLsb' 12 3 = 0
    ∧ o.extractLsb' 0 2 = 0 ∧ i.reg.offset = o.extractLsb' 0 12 := by
  obtain ⟨hz, ha, hoff, hbit⟩ := opWordShape i
  have hz' : i.opWord.extractLsb' 12 3 = 0 := by
    apply BitVec.eq_of_getLsbD_eq
    intro k hk
    have hk' : 2 + k < 5 := by omega
    simpa [hk, hk', ← Nat.add_assoc] using congrArg (BitVec.getLsbD · (2 + k)) hz
  constructor
  · rintro rfl
    exact ⟨hbit, hz', ha, hoff.symm⟩
  · rintro ⟨hb, h3, -, h12⟩
    exact opWord_ext (hbit.trans hb.symm) (hz'.trans h3.symm) (hoff.trans h12)

/-- An op word decodes to the instruction it is the op word of, with the data word of a write (R72, R82). -/
theorem decode_eq_ok_iff :
    decode o d = .ok i ↔ i.opWord = o ∧ i.dataWord = if o.getLsbD 15 then some d else none := by
  rw [decode_eq_ok_iff_fields, opWord_eq_iff]
  constructor
  · rintro ⟨hz, ha, hoff, hd⟩
    refine ⟨⟨?_, hz, ha, hoff⟩, hd⟩
    rw [hd]
    cases o.getLsbD 15 <;> rfl
  · rintro ⟨⟨-, hz, ha, hoff⟩, hd⟩
    exact ⟨hz, ha, hoff, hd⟩

/-- EVERY instruction is what its words decode to. -/
theorem decode_opWord (i : Instr) : decode i.opWord (i.dataWord.getD 0) = .ok i := by
  obtain ⟨-, -, -, hbit⟩ := opWordShape i
  refine decode_eq_ok_iff.mpr ⟨rfl, ?_⟩
  rw [hbit]
  cases i.dataWord <;> rfl

/-- Bit 15 and the bits that an element of the host program carries (R82). -/
theorem ofBool_append_setWidth (o : OpWord) : BitVec.ofBool (o.getLsbD 15) ++ o.setWidth 15 = o :=
  BitVec.cons_msb_setWidth o

theorem opWord_ofWords (o : OpWord) (d : Word) : (HostOp.ofWords o d).opWord = some o := by
  have hbits := ofBool_append_setWidth o
  unfold HostOp.ofWords
  cases hb : o.getLsbD 15 <;> rw [hb] at hbits <;> exact congrArg some hbits

/-- The opcode table's number of an op word and a data word holds both (log entry 10). -/
theorem decodeTableWord_of_words (o : OpWord) (d : Word) :
    decodeTableWord 48 (o.toNat + 2 ^ 16 * d.toNat) = (decode o d).toOption := by
  have hlt : o.toNat + 2 ^ 16 * d.toNat < 2 ^ 48 := by omega
  have ho : BitVec.ofNat 16 (o.toNat + 2 ^ 16 * d.toNat) = o := by bv_omega
  have hd : (o.toNat + 2 ^ 16 * d.toNat) / 2 ^ 16 = d.toNat := by omega
  rw [decodeTableWord, Nat.mod_eq_of_lt hlt, ho, hd, BitVec.ofNat_toNat, BitVec.setWidth_eq]
  cases decode o d <;> rfl

/-- HOST performs the instruction its words decode to; a read takes no data word (R74, R82). -/
theorem hostAccess_of_decode (h : decode o d = .ok i) : hostAccess o d s = exec i s := by
  rw [hostAccess, h]

theorem hostStep_of_words (hop : s.nextOp = some (HostOp.ofWords o d)) (h : decode o d = .ok i) :
    hostStep s = exec i s := by
  have hbits := ofBool_append_setWidth o
  rw [hostStep, hop, HostOp.ofWords]
  cases hb : o.getLsbD 15 <;> rw [hb] at hbits
  · have hread : decode o 0 = .ok i := by
      rw [decode_eq_ok_iff, hb] at h ⊢
      exact h
    exact (congrArg (hostAccess · 0 s) hbits).trans (hostAccess_of_decode hread)
  · exact (congrArg (hostAccess · d s) hbits).trans (hostAccess_of_decode h)

end Sys2Proof.Machine
end

section
/-! SUPPORT. The rows of R80, the writer check and the lock of R78, and the step of a chosen agent. -/

namespace Sys2Proof.Machine

open Expected

variable {d : Word} {i : Instr} {r : Reg} {s : State}

/-- Each row of R80 has its instruction's op word, and a write's row carries the data word. -/
theorem of_mem_opTable {p : OpWord × Instr} (h : p ∈ opTable d) :
    p.2.opWord = p.1 ∧ p.2.dataWord = if p.1.getLsbD 15 then some d else none := by
  revert p
  simp [opTable, Instr.opWord, Instr.dataWord]

/-- EVERY instruction has its row in R80. -/
theorem mem_opTable_of_dataWord (h : i.dataWord = none ∨ i.dataWord = some d) :
    (i.opWord, i) ∈ opTable d := by
  cases i with
  | wrCrcCfg e | wrCrcSeed e | wrCrcCheck e | wrCrcLength e | wrCrcCtrl e | wrCrcIr e | wrDmaSar e
    | wrDmaDar e | wrDmaCtl e | wrDmaBlock e | wrDmaEvten e | wrDmaStart e | wrDmaEvtclr e
    | wrSyncSet e | wrIndThr e =>
    obtain rfl : e = d := by simpa [Instr.dataWord] using h
    simp [opTable, Instr.opWord]
  | _ => simp [opTable, Instr.opWord]

theorem decode_eq_ok_iff_mem_opTable {o : OpWord} : decode o d = .ok i ↔ (o, i) ∈ opTable d := by
  rw [decode_eq_ok_iff]
  constructor
  · rintro ⟨rfl, hd⟩
    exact mem_opTable_of_dataWord (by rw [hd]; split_ifs <;> simp)
  · exact of_mem_opTable

/-- A `W*` register's writer check comes first (R78). -/
theorem writeCheck_eq_writer (h : r.access = .wStar) :
    writeCheck r d s = some ⟨.writer, .offset r.offset⟩ :=
  if_pos h

/-- HOST's write of a `W*` register is F_WRITER (R101, R133, R154). -/
theorem hostAccess_eq_writer (hw : i.dataWord = some d) (h : i.reg.access = .wStar) :
    hostAccess i.opWord d s = .next (hostFault s .writer (.offset i.reg.offset)) := by
  have hdec := decode_opWord i
  rw [hw] at hdec
  exact (hostAccess_of_decode hdec).trans (exec_of_writeCheck hw (writeCheck_eq_writer h))

theorem access_ne_wStar_of_isConfig (h : r.isConfig = true) : r.access ≠ .wStar := by
  intro ha
  cases r with
  | crcIr | dmaEvtclr | syncSet => cases h
  | _ => cases ha

/-- The lock comes before the reserved bits (R78, R86). -/
theorem writeCheck_eq_locked (h : r.isConfig = true) (hd : s.dmaState ≠ .idle) :
    writeCheck r d s = some ⟨.locked, .offset r.offset⟩ := by
  have hlock : (r.isConfig && s.locked) = true := by simp [h, State.locked, hd]
  rw [writeCheck, if_neg (access_ne_wStar_of_isConfig h), if_pos hlock]

/-- DMA_START's own check outside IDLE (41_dma.md R131). -/
theorem startTransfer_of_not_idle (hd : s.dmaState ≠ .idle) :
    startTransfer s = .error ⟨.restart, .dmaState s.dmaState⟩ :=
  if_pos hd

/-- GO = 1 alone passes every check of R78, in every state. -/
theorem exec_wrDmaStart_go (s : State) :
    exec (.wrDmaStart 1) s = .next (s.settle .host (startTransfer s)) := by
  have hcheck : writeCheck .dmaStart 1 s = none :=
    (writeCheck_eq_none _ _ _).mpr ⟨by decide, by simp [Reg.isConfig], by decide⟩
  rw [exec, execWrDmaStart, hostWrite, hcheck]
  rfl

theorem step_of_chosen {a : Agent} (hf : s.fault = none) (ha : s.chooseAgent = some a) :
    step s = agentStep a s.nextTurn := by
  rw [step, machineStep, hf, ha]

end Sys2Proof.Machine
end

section
/-! PROOFS. The statements about the encoding. -/

namespace Sys2Proof.Machine

open Expected

/-- Settles O2: an op word decodes exactly to the instruction it is the op word of. -/
theorem encodeDecodeAgree : Obligations.EncodeDecodeAgree := by
  unfold Obligations.EncodeDecodeAgree
  refine ⟨fun i => ⟨decode_opWord i, ?_, opWord_ofWords _ _⟩, fun o d i => decode_eq_ok_iff.mp⟩
  rw [decodeTableWord_of_words, decode_opWord]
  rfl

/-- Settles O1: what decodes is in the table, and what is not in it is refused. -/
theorem legalOpWords : Obligations.LegalOpWords := by
  unfold Obligations.LegalOpWords
  refine ⟨fun o d i => decode_eq_ok_iff_mem_opTable, fun o d s ho => ?_, fun d s => ?_⟩
  · cases hdec : decode o d with
    | ok i => exact absurd (List.mem_map_of_mem (decode_eq_ok_iff_mem_opTable.mp hdec)) ho
    | error e =>
      rw [hostAccess, hdec]
      rfl
  · exact ⟨hostAccess_eq_writer (i := .wrCrcIr d) rfl rfl,
      hostAccess_eq_writer (i := .wrDmaEvtclr d) rfl rfl,
      hostAccess_eq_writer (i := .wrSyncSet d) rfl rfl⟩

/-- Settles O30: the eleven registers are locked, and DMA_START has its own check. -/
theorem lockedConfiguration : Obligations.LockedConfiguration := by
  unfold Obligations.LockedConfiguration
  intro s hd
  constructor
  · rintro i r off d hw rfl hrow
    obtain ⟨hconfig, hoff⟩ :=
      (by decide : ∀ p ∈ _, p.1.isConfig = true ∧ p.1.offset = p.2) _ hrow
    obtain rfl : i.reg.offset = off := hoff
    exact exec_of_writeCheck hw (writeCheck_eq_locked hconfig hd)
  · rw [exec_wrDmaStart_go, startTransfer_of_not_idle hd]
    rfl

/-- Settles O3: five rows of R80, and the first check of R72 that each other word fails. -/
theorem sampleWordsDecode : Obligations.SampleWordsDecode := by
  unfold Obligations.SampleWordsDecode
  exact ⟨decode_opWord (.wrCrcCfg 5), decode_opWord .rdCrcSts, decode_opWord (.wrDmaStart 1),
    decode_opWord .rdSyncSts, decode_opWord (.wrIndThr 3), rfl, rfl, rfl, rfl, rfl, rfl⟩

/-- Settles O4: HOST's step decodes the words at `hpc`. -/
theorem stepRunsDecodedInstruction : Obligations.StepRunsDecodedInstruction := by
  unfold Obligations.StepRunsDecodedInstruction
  intro s o d i hf ha hop hdec
  exact (step_of_chosen hf ha).trans (hostStep_of_words (s := s.nextTurn) hop hdec)

end Sys2Proof.Machine
end

section
/-! SUPPORT. What a write that passes every check of R78 does, the mask of a field in the low bits, and the
values that reads log (spec/30_encoding.md R77 to R79; 10_state.md R27, R32). -/

namespace Sys2Proof.Machine

open Expected

variable {d w : Word} {i : Instr} {r : Reg} {s : State}

/-- A mask of all bits from `k` up meets exactly the words of `2 ^ k` and more (10_state.md R28). -/
theorem and_highBits_eq_zero_iff (k : Nat) : d &&& (BitVec.allOnes 32 <<< k) = 0 ↔ d.toNat < 2 ^ k := by
  constructor
  · intro h
    refine Nat.lt_pow_two_of_testBit _ fun j hj => ?_
    by_cases h32 : j < 32
    · have hmask : (BitVec.allOnes 32 <<< k).getLsbD j = true := by
        rw [BitVec.getLsbD_shiftLeft, BitVec.getLsbD_allOnes]
        simp [h32, Nat.not_lt.mpr hj, Nat.lt_of_le_of_lt (Nat.sub_le j k) h32]
      have hbit : (d.getLsbD j && (BitVec.allOnes 32 <<< k).getLsbD j) = false := by
        rw [← BitVec.getLsbD_and, h]
        exact BitVec.getLsbD_zero
      rwa [hmask, Bool.and_true] at hbit
    · exact BitVec.getLsbD_of_ge d j (by omega)
  · intro h
    apply BitVec.eq_of_getLsbD_eq
    intro j hj
    by_cases hlow : j < k
    · simp [hlow]
    · have hbit : d.getLsbD j = false :=
        Nat.testBit_lt_two_pow (h.trans_le (Nat.pow_le_pow_right (by decide) (Nat.le_of_not_lt hlow)))
      simp [hbit]

/-- A configuration write of an IDLE machine without a reserved 1 stores and advances (R76, R78). -/
theorem exec_eq_store (hw : i.dataWord = some d) (hc : i.reg.isConfig = true) (hthr : i.reg ≠ .indThr)
    (hd : s.dmaState = .idle) (hres : d &&& i.reg.reserved = 0) :
    exec i s = .next (done (s.store i)) := by
  have hcheck : writeCheck i.reg d s = none :=
    (writeCheck_eq_none _ _ _).mpr ⟨access_ne_wStar_of_isConfig hc, fun _ => hd, hres⟩
  have performed : ∀ f, hostWrite i.reg d s f = f s := fun f => by rw [hostWrite, hcheck]
  cases i with
  | wrCrcCfg | wrCrcSeed | wrCrcCheck | wrCrcLength | wrCrcCtrl | wrDmaSar | wrDmaDar | wrDmaCtl
    | wrDmaBlock | wrDmaEvten =>
    cases hw
    exact congrArg _ (performed _)
  | wrIndThr => exact absurd rfl hthr
  | wrDmaStart | wrCrcIr | wrDmaEvtclr | wrSyncSet => cases hc
  | _ => cases hw

/-- A configuration write outside IDLE is F_LOCKED (R86). -/
theorem exec_eq_locked (hw : i.dataWord = some d) (hc : i.reg.isConfig = true) (hd : s.dmaState ≠ .idle) :
    exec i s = .next (hostFault s .locked (.offset i.reg.offset)) :=
  exec_of_writeCheck hw (writeCheck_eq_locked hc hd)

/-- A configuration write of an IDLE machine with a reserved 1 is F_RESERVED (R78). -/
theorem exec_eq_reserved (hw : i.dataWord = some d) (hc : i.reg.isConfig = true) (hd : s.dmaState = .idle)
    (hres : d &&& i.reg.reserved ≠ 0) :
    exec i s = .next (hostFault s .reserved (.offsetData i.reg.offset d)) :=
  exec_of_writeCheck hw (writeCheck_eq_reserved (access_ne_wStar_of_isConfig hc) (fun _ => hd) hres)

/-- HOST's write of a `W*` register is F_WRITER in every state (R78). -/
theorem exec_eq_writer (hw : i.dataWord = some d) (h : i.reg.access = .wStar) :
    exec i s = .next (hostFault s .writer (.offset i.reg.offset)) :=
  exec_of_writeCheck hw (writeCheck_eq_writer h)

theorem exec_eq_unwritten {v : Option Word} (he : exec i s = .next (readStored r v s)) (hv : v = none) :
    exec i s = .next (hostFault s .unwritten (.offset r.offset)) := by
  rw [he, hv]
  rfl

theorem exec_eq_readDone {v : Option Word} (he : exec i s = .next (readStored r v s)) (hv : v = some w) :
    exec i s = .next (readDone s r.offset w) := by
  rw [he, hv]
  rfl

theorem zextBit_eq (b : Bool) : zextBit b = if b then 1 else 0 := by
  cases b <;> rfl

/-- CRC_CFG's three bits as a number (40_crc.md R92). -/
theorem toWord_crcCfg_eq (c : CrcCfg) :
    c.toWord = BitVec.ofNat 32 (c.refin.toNat + 2 * c.refout.toNat + 4 * c.xorout.toNat) := by
  obtain ⟨refin, refout, xorout⟩ := c
  cases refin <;> cases refout <;> cases xorout <;> rfl

/-- A status word as a number: the code at bit 0, and the flags at bits 4 and 5 (10_state.md R27). -/
theorem statusWord_eq (b5 b4 : Bool) (code : BitVec 2) :
    statusWord b5 b4 code = BitVec.ofNat 32 (code.toNat + 16 * b4.toNat + 32 * b5.toNat) := by
  revert code
  cases b5 <;> cases b4 <;> decide

/-- A start whose LENGTH no BLOCK can equal is refused (41_dma.md R131). -/
theorem startTransfer_ne_ok {t : State} (hl : s.crcLength = some d)
    (hbad : d.toNat = 0 ∨ s.params.maxBlockSize < d.toNat) : startTransfer s ≠ .ok t := by
  intro h
  obtain ⟨-, o, ho, hcheck, -⟩ := (startTransfer_eq_ok s t).mp h
  obtain ⟨-, -, -, -, hlen, -⟩ := (startOperands_eq_ok s o).mp ho
  obtain ⟨-, -, hne, hmax, -, -, -, -, heq⟩ := (descriptorCheck_eq_none s.params o).mp hcheck
  obtain rfl : d = o.block.setWidth 32 := by rw [heq]; exact Option.some.inj (hl.symm.trans hlen)
  have hpos : o.block.toNat ≠ 0 := fun e => hne (BitVec.eq_of_toNat_eq e)
  have hnat : (o.block.setWidth 32).toNat = o.block.toNat :=
    BitVec.toNat_setWidth_of_le (by decide)
  omega

/-- A refused start with GO = 1 is a fault over the state as it was, whatever else the data holds. -/
theorem exec_wrDmaStart_of_refused (hgo : d.getLsbD 0 = true) (h : ∀ t, startTransfer s ≠ .ok t) :
    ∃ code info, exec (.wrDmaStart d) s = .next (hostFault s code info) := by
  rcases hostWrite_cases .dmaStart d s fun t =>
      if d.getLsbD 0 then t.settle .host (startTransfer t) else t.advance with ⟨c, -, hw⟩ | ⟨-, hw⟩
  · exact ⟨c.code, c.info, congrArg _ hw⟩
  · cases hs : startTransfer s with
    | ok t => exact absurd hs (h t)
    | error c =>
      rw [if_pos hgo, hs] at hw
      exact ⟨c.code, c.info, congrArg _ hw⟩

end Sys2Proof.Machine
end

section
/-! PROOFS. The CRC unit's register accesses, and the reads that always complete. -/

namespace Sys2Proof.Machine

open Expected

/-- Settles O13: the checks of R78 in their order, then the store. -/
theorem wrCrcCfg : Obligations.WrCrcCfg := by
  unfold Obligations.WrCrcCfg
  intro d s
  have hmask : d &&& Reg.crcCfg.reserved = 0 ↔ d.toNat < 8 := and_highBits_eq_zero_iff 3
  exact ⟨decode_opWord (.wrCrcCfg d), fun hd => exec_eq_locked rfl rfl hd,
    fun hd hge => exec_eq_reserved rfl rfl hd (hmask.not.mpr (by omega)),
    fun hd hlt => exec_eq_store rfl rfl nofun hd (hmask.mpr hlt)⟩

/-- Settles O14: no bit of the seed is reserved. -/
theorem wrCrcSeed : Obligations.WrCrcSeed := by
  unfold Obligations.WrCrcSeed
  intro d s
  exact ⟨decode_opWord (.wrCrcSeed d), fun hd => exec_eq_locked rfl rfl hd,
    fun hd => exec_eq_store rfl rfl nofun hd BitVec.and_zero⟩

/-- Settles O15: the two stores; and an accepted start has LENGTH equal to BLOCK, which is in range. -/
theorem wrCrcCheckAndLength : Obligations.WrCrcCheckAndLength := by
  unfold Obligations.WrCrcCheckAndLength
  intro d s
  refine ⟨decode_opWord (.wrCrcCheck d), decode_opWord (.wrCrcLength d),
    fun hd => ⟨exec_eq_locked rfl rfl hd, exec_eq_locked rfl rfl hd⟩,
    fun hd => ⟨exec_eq_store rfl rfl nofun hd BitVec.and_zero,
      exec_eq_store rfl rfl nofun hd BitVec.and_zero⟩, fun hl hbad g hgo => ?_⟩
  exact exec_wrDmaStart_of_refused hgo fun t => startTransfer_ne_ok hl hbad

/-- Settles O16: the checks of R78, the store, and the latch, which AUTOCHK arms. -/
theorem wrCrcCtrl : Obligations.WrCrcCtrl := by
  unfold Obligations.WrCrcCtrl
  intro d s
  have hmask : d &&& Reg.crcCtrl.reserved = 0 ↔ d.toNat < 2 := and_highBits_eq_zero_iff 1
  refine ⟨decode_opWord (.wrCrcCtrl d), fun hd => exec_eq_locked rfl rfl hd,
    fun hd hge => exec_eq_reserved rfl rfl hd (hmask.not.mpr (by omega)),
    fun hd hlt => exec_eq_store rfl rfl nofun hd (hmask.mpr hlt), fun ha w t ht => ?_⟩
  obtain ⟨cfg, c0, -, -, hlatch⟩ := crcFold_ok w s t ht
  rcases latchResult_cases _ _ _ _ hlatch with ⟨_, harmed, -⟩ | ⟨-, rfl⟩
  · cases ha.symm.trans harmed
  · exact ⟨rfl, rfl⟩

/-- Settles O17: the writer check comes first. -/
theorem writerRefusals : Obligations.WriterRefusals := by
  unfold Obligations.WriterRefusals
  intro d s
  exact ⟨decode_opWord (.wrCrcIr d), decode_opWord (.wrDmaEvtclr d), decode_opWord (.wrSyncSet d),
    exec_eq_writer rfl rfl, exec_eq_writer rfl rfl, exec_eq_writer rfl rfl⟩

/-- Settles O18: four reads of stored registers. -/
theorem rdCrcConfiguration : Obligations.RdCrcConfiguration := by
  unfold Obligations.RdCrcConfiguration
  intro s
  exact ⟨fun h => exec_eq_unwritten (r := .crcCfg) rfl (by rw [h]; rfl),
    fun c h => exec_eq_readDone (r := .crcCfg) rfl (by rw [h, ← toWord_crcCfg_eq]; rfl),
    fun h => exec_eq_unwritten (r := .crcSeed) rfl h, fun w h => exec_eq_readDone (r := .crcSeed) rfl h,
    fun h => exec_eq_unwritten (r := .crcCheck) rfl h, fun w h => exec_eq_readDone (r := .crcCheck) rfl h,
    fun h => exec_eq_unwritten (r := .crcLength) rfl h, fun w h => exec_eq_readDone (r := .crcLength) rfl h⟩

/-- Settles O19: the result is readable exactly when it is latched and the flag is visible. -/
theorem rdCrcSts : Obligations.RdCrcSts := by
  unfold Obligations.RdCrcSts
  refine fun s => ⟨fun h => ?_, fun hres h2 => ?_⟩
  · have hno : ¬s.resultReadable = true := by rcases h with h | h <;> simp [State.resultReadable, h]
    exact congrArg _ (if_neg hno)
  · have hyes : s.resultReadable = true := by simp [State.resultReadable, hres, h2]
    rw [← zextBit_eq]
    exact congrArg _ (if_pos hyes)

/-- Settles O20: the value is there exactly when both of its registers are written. -/
theorem rdCrcRes : Obligations.RdCrcRes := by
  unfold Obligations.RdCrcRes
  refine fun s => ⟨fun h => exec_eq_unwritten (r := .crcRes) rfl ?_, fun cfg c hcfg hc =>
    exec_eq_readDone (r := .crcRes) rfl ?_⟩
  · rcases h with h | h <;> simp [h]
  · rw [hcfg, hc]
    rfl

/-- Settles O29: each read completes, and its value's bits are those of the number. -/
theorem alwaysReadableRegisters : Obligations.AlwaysReadableRegisters := by
  unfold Obligations.AlwaysReadableRegisters
  intro s
  have completed : ∀ (r : Reg) {v w : Word}, v = w →
      (.next (s.completeRead r v) : Host.Outcome State Fault Refusal) = .next (readDone s r.offset w) :=
    fun r _ _ h => by rw [h]; rfl
  refine ⟨completed .crcCtrl (zextBit_eq _), rfl, completed .dmaEvten (zextBit_eq _),
    completed .dmaSts ?_, completed .dmaRem (BitVec.ofNat_toNat 32 s.rem).symm, rfl, rfl,
    completed .indSts ?_⟩
  · rw [State.dmaStsWord, statusWord_eq]
    cases s.dmaState <;> rfl
  · rw [State.indStsWord, statusWord_eq, State.armed]
    cases s.indState <;> rfl

end Sys2Proof.Machine
end

section
/-! SUPPORT. The DMA word step in every state, its checks in order, and the faults and the verdict of a run
(spec/41_dma.md R135; 40_crc.md R106, R109; 43_indicator.md R172). -/

namespace Sys2Proof.Machine

variable {s t : State}

theorem dmaStep_of_error {c : Cause} (h : dmaWord s = .error c) : dmaStep s = s.raise .dma c := by
  rw [dmaStep, h]
  rfl

theorem dmaStep_of_ok (h : dmaWord s = .ok t) : dmaStep s = t := by
  rw [dmaStep, h]
  rfl

theorem dmaWord_of_not_admitted (h : s.mem.readWord s.curSrc = none) :
    dmaWord s = .error ⟨.mem, .address s.curSrc⟩ := by
  rw [dmaWord, h]

/-- The overrun check on a written LENGTH (40_crc.md R109). -/
theorem overrunCheck_of_written {len : Word} (hl : s.crcLength = some len) :
    overrunCheck s =
      if s.autochk = true ∧ len ≤ s.count then .error ⟨.overrun, .count s.count⟩ else .ok () := by
  rw [overrunCheck, hl]
  cases s.autochk <;> simp [written, bind, Except.bind]

/-- An overrun is found before anything is folded (40_crc.md R106). -/
theorem dmaWord_of_overrun {w : Word} {c : Cause} (hw : s.mem.readWord s.curSrc = some w)
    (ho : overrunCheck s = .error c) : dmaWord s = .error c := by
  simp only [dmaWord, hw, crcFold, ho, bind, Except.bind]

/-- A fold that does not overrun, on written registers, with its latch (40_crc.md R106, R109). -/
theorem crcFold_of_room {w len c0 check : Word} {cfg : CrcCfg} (ho : overrunCheck s = .ok ())
    (hcfg : s.crcCfg = some cfg) (h0 : s.crcState = some c0) (hl : s.crcLength = some len)
    (hk : s.crcCheck = some check) :
    crcFold w s = .ok { s.folded cfg c0 w with
      resMismatch := if s.autochk && s.count + 1 == len then
        crcFinal cfg (crc32Step c0 (din s.params.refinGranularity cfg w)) != check else s.resMismatch
      resValid := if s.autochk && s.count + 1 == len then true else s.resValid } := by
  have hlatch : (s.folded cfg c0 w).autochk = true ∧ (s.folded cfg c0 w).count = len
      ↔ (s.autochk && s.count + 1 == len) = true := by simp [State.folded]
  rw [crcFold_of_written ho hcfg h0, latchResult_of_written (s := s.folded cfg c0 w) hl hk]
  simp only [hlatch]
  split_ifs <;> rfl

/-- The only fault of DMA in a run is F_MEM (41_dma.md R131, R135). -/
theorem fault_of_dmaStep {r : FaultRecord} (h : s.Inv) (hb : s.dmaState = .busy) (hf : s.fault = none)
    (hr : (dmaStep s).fault = some r) : r.code = .mem ∧ s.mem.readWord s.curSrc = none := by
  cases hw : s.mem.readWord s.curSrc with
  | none =>
    rw [dmaStep_of_error (dmaWord_of_not_admitted hw)] at hr
    obtain rfl := Option.some.inj hr
    exact ⟨rfl, rfl⟩
  | some w =>
    obtain ⟨p, hp⟩ := exists_programmed h (by simp [hb])
    obtain ⟨c, -, hmove⟩ := dmaWord_of_moving (moving_of_programmed h hp hb) hw
    rw [dmaStep_of_ok hmove, dmaWord_frame hmove, hf] at hr
    cases hr

/-- The only fault of IND in a run is IND_CHECK's, without a latched result (43_indicator.md R172). -/
theorem fault_of_indStep {r : FaultRecord} (h : s.Inv) (hf : s.fault = none)
    (hr : (indStep s).fault = some r) : r.code = .undefResult ∧ s.autochk = false := by
  have absent : s.fault ≠ some r := by simp [hf]
  unfold indStep at hr
  cases hi : s.indState with
  | checking =>
    rw [hi] at hr
    unfold indCheck at hr
    split_ifs at hr with hres hmis
    · exact absurd hr absent
    · exact absurd hr absent
    · obtain rfl := Option.some.inj hr
      have hind := h
      obtain ⟨-, -, -, -, -, -, hvis, -⟩ := hind
      obtain ⟨-, -, hvalid, -⟩ := visibleFlagMeansBlockFolded s h (hvis (by simp [hi]))
      exact ⟨rfl, by simpa [hvalid] using hres⟩
  | waiting | verified | mismatchBlink =>
    rw [hi] at hr
    exact absurd hr absent

/-- At a verdict the engine is DONE, the whole block is folded, and the state is the latched result, which
is the comparison of the block's CRC with CRC_CHECK (40_crc.md R106; 43_indicator.md R172). -/
theorem verdict_of_inv (h : s.Inv) (hi : s.indState = .verified ∨ s.indState = .mismatchBlink) :
    s.dmaState = .done ∧ s.blockSize = some s.count.toNat
      ∧ s.mismatchOf (s.blockCrc s.count.toNat) = some (s.indState != .verified) := by
  have hinv := h
  obtain ⟨-, -, -, -, ⟨hcrc, -, hlatch, -⟩, -, hvis, -, hver, hblink, -⟩ := hinv
  have h2 : s.sync2 = true := hvis (by rcases hi with hi | hi <;> simp [hi])
  obtain ⟨hd, hsize, -⟩ := visibleFlagMeansBlockFolded s h h2
  refine ⟨hd, hsize, ?_⟩
  rw [← hcrc]
  rcases hi with hi | hi
  · obtain ⟨-, hres, hmis⟩ := hver hi
    rw [hlatch hres, hmis, hi]
    rfl
  · obtain ⟨hres, hmis, -⟩ := hblink hi
    rw [hlatch hres, hmis, hi]
    rfl

end Sys2Proof.Machine
end

section
/-! PROOFS. The DMA word step, the faults of a run, and its verdict. -/

namespace Sys2Proof.Machine

/-- Settles O35: the checks in their order, then the fold on written registers. -/
theorem dmaWordStep : Obligations.DmaWordStep := by
  unfold Obligations.DmaWordStep
  refine ⟨fun s hf => by simp [State.enabled, hf], fun s hw => dmaStep_of_error (dmaWord_of_not_admitted hw),
    fun s w len hw ha hl hle => ?_, fun s w len c0 check cfg ctl hw hcfg h0 hl hk hctl hroom => ?_⟩
  · have ho : overrunCheck s = .error ⟨.overrun, .count s.count⟩ := by
      rw [overrunCheck_of_written hl, if_pos ⟨ha, hle⟩]
    exact dmaStep_of_error (dmaWord_of_overrun hw ho)
  · have ho : overrunCheck s = .ok () := by
      rw [overrunCheck_of_written hl, if_neg fun ⟨ha, hle⟩ => Nat.not_le_of_lt (hroom ha) hle]
    rw [dmaStep_of_ok (dmaWord_of_fold hw (crcFold_of_room ho hcfg h0 hl hk) hctl)]
    by_cases hlast : s.rem - 1 = 0
    · have hbit : (s.rem - 1 == 0) = true := beq_iff_eq.mpr hlast
      refine (if_pos hlast).trans ?_
      simp only [State.folded, hbit, Bool.true_and, if_true]
      cases ctl.intEn <;> simp only [Bool.or_true, Bool.or_false, if_true, Bool.false_eq_true, if_false]
    · have hbit : (s.rem - 1 == 0) = false := beq_eq_false_iff_ne.mpr hlast
      refine (if_neg hlast).trans ?_
      simp only [State.folded, hbit, Bool.false_and, Bool.false_eq_true, if_false]

/-- Settles O51: a word that is admitted moves, and IND_CHECK finds the result latched if AUTOCHK is armed. -/
theorem autonomousFaultsAreOnlyThese : Obligations.AutonomousFaultsAreOnlyThese := by
  unfold Obligations.AutonomousFaultsAreOnlyThese
  intro s t r h hs hr
  obtain ⟨hf, ⟨-, rfl⟩ | ⟨a, -, he, hstep⟩⟩ := step_cases s t hs
  · cases hf.symm.trans hr
  have hagent : r.agent = a := by
    rcases agentStep_raise_or_sameLaunch hstep with ⟨c, rfl⟩ | hsame
    · obtain rfl := Option.some.inj hr
      rfl
    · cases (hsame.fault.trans hf).symm.trans hr
  subst hagent
  constructor <;> intro ha <;> rw [ha] at he hstep <;> cases hstep
  · exact fault_of_dmaStep (s := s.nextTurn) h (by simpa [State.enabled, hf] using he) hf hr
  · exact fault_of_indStep (s := s.nextTurn) h hf hr

/-- Settles O53: the verdict is the latched result, and that is the whole block's. -/
theorem verdictIsTheBlocksCrc : Obligations.VerdictIsTheBlocksCrc := by
  unfold Obligations.VerdictIsTheBlocksCrc
  intro s h hi
  obtain ⟨hd, hsize, hverdict⟩ := verdict_of_inv h hi
  obtain ⟨p, hp⟩ := exists_programmed h (by simp [hd])
  have hcount : p.block.toNat = s.count.toNat := by simpa [State.blockSize, hp.block] using hsize
  rw [blockCrc_of_programmed hp, ← hcount] at hverdict
  obtain ⟨c, hc, hmis⟩ := Option.bind_eq_some_iff.mp hverdict
  have hne : (crcFinal p.cfg c != p.check) = (s.indState != .verified) := by
    simpa [hp.cfg, hp.check] using hmis
  refine ⟨p.block, p.sar, p.seed, p.cfg, p.check, c, hp.block, hp.sar, hp.seed, hp.cfg, hp.check, hc, ?_⟩
  rw [← bne_eq_false_iff_eq, ← hne, bne_eq_false_iff_eq]

end Sys2Proof.Machine
end

section
/-! SUPPORT. The CRC's shift register (spec/40_crc.md R107): it is linear over GF(2), so a word's 32 shifts
are those of its bytes, and bit reversal turns it into the reflected register. -/

namespace Sys2Proof.Machine

open Expected

theorem crcShifts_eq_iterate (n : Nat) (r : Word) : crcShifts n r = shiftPoly^[n] r := by
  induction n generalizing r with
  | zero => rfl
  | succ n ih => exact ih (crcShift r)

/-- A shift of a sum is the sum of the shifts: the two top bits decide how often the polynomial is added. -/
theorem shiftPoly_xor (a b : Word) : shiftPoly (a ^^^ b) = shiftPoly a ^^^ shiftPoly b := by
  simp only [shiftPoly, BitVec.getLsbD_xor, BitVec.shiftLeft_xor_distrib]
  cases a.getLsbD 31 <;> cases b.getLsbD 31
  · rfl
  · exact BitVec.xor_assoc _ _ _
  · simp only [Bool.xor_false, if_true, Bool.false_eq_true, if_false]
    ac_rfl
  · simp only [Bool.xor_self, if_true, Bool.false_eq_true, if_false]
    rw [← xor_cancel_right (a <<< 1 ^^^ b <<< 1) 0x04C11DB7]
    ac_rfl

theorem iterate_shiftPoly_xor (n : Nat) (a b : Word) :
    shiftPoly^[n] (a ^^^ b) = shiftPoly^[n] a ^^^ shiftPoly^[n] b :=
  Function.Semiconj₂.iterate (op := (· ^^^ ·)) shiftPoly_xor n a b

/-- While the top bits are 0 the register only shifts. -/
theorem iterate_shiftPoly_of_top_zero (n : Nat) (r : Word) (h : ∀ i, 32 ≤ i + n → r.getLsbD i = false) :
    shiftPoly^[n] r = r <<< n := by
  induction n generalizing r with
  | zero => simp
  | succ n ih =>
    have htop : shiftPoly r = r <<< 1 := if_neg (by rw [h 31 (by omega)]; decide)
    rw [Function.iterate_succ_apply, htop, ih _ fun i hi => ?_, Nat.add_comm, BitVec.shiftLeft_add]
    simp [h (i - 1) (by omega)]

/-- A word is its top byte and a rest that eight shifts move up as it is. -/
theorem iterate_shiftPoly_eight (c w : Word) :
    shiftPoly^[8] (c ^^^ w) = straightByte c (w.extractLsb' 24 8) ^^^ w <<< 8 := by
  have htop : ∀ i, 24 ≤ i → i < 32 → ((w.extractLsb' 24 8).setWidth 32 <<< 24 : Word).getLsbD i
      = w.getLsbD i := by
    intro i h24 h32
    have hlt : i - 24 < 8 := by omega
    simp [h32, hlt, h24]
  have hrest : shiftPoly^[8] ((w.extractLsb' 24 8).setWidth 32 <<< 24 ^^^ w) = w <<< 8 := by
    rw [iterate_shiftPoly_of_top_zero _ _ fun i hi => ?_]
    · rw [BitVec.shiftLeft_xor_distrib, ← BitVec.shiftLeft_add, BitVec.shiftLeft_eq_zero (by decide),
        BitVec.zero_xor]
    · by_cases h32 : i < 32
      · rw [BitVec.getLsbD_xor, htop i (by omega) h32, Bool.xor_self]
      · exact BitVec.getLsbD_of_ge _ i (by omega)
  rw [straightByte, ← hrest, ← iterate_shiftPoly_xor, ← BitVec.xor_assoc, BitVec.xor_assoc c,
    BitVec.xor_self, BitVec.xor_zero]

/-- The top byte of a word shifted up by `k` is the byte `k` bits below the top. -/
theorem extractLsb'_shiftLeft (w : Word) (k : Nat) (hk : k ≤ 24) :
    (w <<< k).extractLsb' 24 8 = w.extractLsb' (24 - k) 8 := by
  apply BitVec.eq_of_getLsbD_eq
  intro i hi
  have h32 : 24 + i < 32 := by omega
  have hge : ¬24 + i < k := by omega
  have hidx : 24 + i - k = 24 - k + i := by omega
  simp only [BitVec.getLsbD_extractLsb', BitVec.getLsbD_shiftLeft, h32, hge, hidx, decide_true,
    decide_false, Bool.not_false, Bool.true_and]

/-- A word's step is the straight byte steps of its bytes, top byte first. -/
theorem crc32Step_eq_foldl (c w : Word) : crc32Step c w = (beBytes w).foldl straightByte c := by
  have split : shiftPoly^[32] = shiftPoly^[8] ∘ shiftPoly^[8] ∘ shiftPoly^[8] ∘ shiftPoly^[8] := by
    simp only [← Function.iterate_add]
  rw [crc32Step, crcShifts_eq_iterate, split]
  simp only [Function.comp_apply, iterate_shiftPoly_eight, ← BitVec.shiftLeft_add]
  rw [extractLsb'_shiftLeft w 8 (by decide), extractLsb'_shiftLeft w (8 + 8) (by decide),
    extractLsb'_shiftLeft w (8 + 8 + 8) (by decide), BitVec.shiftLeft_eq_zero (by decide), BitVec.xor_zero]
  rfl

/-- R107's register with the bits in reverse order: the standard reflected shift. -/
def shiftReflected (r : Word) : Word := if r.getLsbD 0 then (r >>> 1) ^^^ 0xEDB88320 else r >>> 1

theorem reflectedByte_eq (c : Word) (b : Byte) :
    reflectedByte c b = shiftReflected^[8] (c ^^^ b.setWidth 32) := rfl

theorem rev32_shiftLeft_one (r : Word) : rev32 (r <<< 1) = rev32 r >>> 1 := by
  apply BitVec.eq_of_getLsbD_eq
  intro i hi
  rw [getLsbD_rev32 _ i hi, BitVec.getLsbD_shiftLeft, BitVec.getLsbD_ushiftRight]
  by_cases hlast : i = 31
  · subst hlast
    rw [BitVec.getLsbD_of_ge (rev32 r) _ (by decide)]
    rfl
  · have h31 : ¬31 - i < 1 := by omega
    have hlt : 31 - i < 32 := by omega
    have hidx : 31 - i - 1 = 31 - (1 + i) := by omega
    rw [getLsbD_rev32 _ _ (by omega), hidx]
    simp [h31, hlt]

/-- Bit reversal takes the straight register to the reflected one. -/
theorem rev32_shiftPoly (r : Word) : rev32 (shiftPoly r) = shiftReflected (rev32 r) := by
  have hpoly : rev32 0x04C11DB7 = 0xEDB88320 := by decide +kernel
  rw [shiftPoly, shiftReflected, getLsbD_rev32 r 0 (by decide)]
  split_ifs
  · rw [rev32_xor, rev32_shiftLeft_one, hpoly]
  · rw [rev32_shiftLeft_one]

/-- The top byte of a word is the reversed low byte of its reversal. -/
theorem rev32_topByte (b : Byte) : rev32 (b.reverse.setWidth 32 <<< 24) = b.setWidth 32 := by
  apply BitVec.eq_of_getLsbD_eq
  intro i hi
  rw [getLsbD_rev32 _ i hi, BitVec.getLsbD_shiftLeft, BitVec.getLsbD_setWidth, BitVec.getLsbD_setWidth,
    BitVec.getLsbD_reverse, BitVec.getMsbD_eq_getLsbD]
  by_cases hlow : i < 8
  · have h24 : ¬31 - i < 24 := by omega
    have hidx : 8 - 1 - (31 - i - 24) = i := by omega
    rw [hidx]
    have h1 : 31 - i < 32 := by omega
    have h2 : 31 - i - 24 < 32 := by omega
    have h3 : 31 - i - 24 < 8 := by omega
    simp [hi, h24, h1, h2, h3]
  · rw [BitVec.getLsbD_of_ge b i (by omega)]
    have h24 : 31 - i < 24 := by omega
    simp [h24]

theorem rev32_straightByte (c : Word) (b : Byte) :
    rev32 (straightByte c b.reverse) = reflectedByte (rev32 c) b := by
  rw [reflectedByte_eq, ← rev32_topByte b, ← rev32_xor]
  exact Function.Semiconj.iterate_right rev32_shiftPoly 8 _

/-- The reflected CRC of some bytes is the reversal of the straight one of the reversed bytes. -/
theorem rev32_foldl_straightByte (c : Word) (bs : List Byte) :
    rev32 ((bs.map BitVec.reverse).foldl straightByte c) = bs.foldl reflectedByte (rev32 c) := by
  rw [List.foldl_map]
  exact (List.foldl_hom rev32 fun c b => (rev32_straightByte c b).symm).symm

theorem extractLsb'_rev32 (w : Word) (k : Nat) (hk : k + 8 ≤ 32) :
    (rev32 w).extractLsb' k 8 = (w.extractLsb' (24 - k) 8).reverse := by
  apply BitVec.eq_of_getLsbD_eq
  intro i hi
  have hidx : 31 - (k + i) = 24 - k + 7 - i := by omega
  rw [getLsbD_reverse_byte w _ i hi, BitVec.getLsbD_extractLsb', decide_eq_true hi, Bool.true_and,
    getLsbD_rev32 w _ (by omega), hidx]

theorem beBytes_rev32 (w : Word) : beBytes (rev32 w) = (leBytes w).map BitVec.reverse := by
  simp [beBytes, leBytes, extractLsb'_rev32]

theorem beBytes_rev8each (w : Word) : beBytes (rev8each w) = (beBytes w).map BitVec.reverse := by
  obtain ⟨h0, h1, h2, h3⟩ := extractLsb'_bytes (w.extractLsb' 0 8).reverse (w.extractLsb' 8 8).reverse
    (w.extractLsb' 16 8).reverse (w.extractLsb' 24 8).reverse
  simp [beBytes, leBytes, rev8each, h0, h1, h2, h3]

/-- A block's CRC is that of the bytes of its transformed words, top byte first (R105, R107). -/
theorem foldWords_eq_foldl (g : Granularity) (cfg : CrcCfg) (ws : List Word) :
    foldWords g cfg ws = (ws.flatMap fun w => beBytes (din g cfg w)).foldl straightByte 0xFFFFFFFF := by
  simp only [foldWords, crc32Step_eq_foldl, List.foldl_flatMap]

/-- Without REFIN, a block's CRC is the straight one of its bytes in big-endian order (R111). -/
theorem foldWords_of_straight (g : Granularity) (cfg : CrcCfg) (h : cfg.refin = false) (ws : List Word) :
    foldWords g cfg ws = (ws.flatMap beBytes).foldl straightByte 0xFFFFFFFF := by
  have hdin : ∀ w, din g cfg w = w := fun w => if_neg (by simp [h])
  simp only [foldWords_eq_foldl, hdin]

/-- With words reversed into reversed bytes, the reversed CRC is the reflected one of the bytes (R110). -/
theorem rev32_foldWords (g : Granularity) (cfg : CrcCfg) (bytes : Word → List Byte) (ws : List Word)
    (h : ∀ w, beBytes (din g cfg w) = (bytes w).map BitVec.reverse) :
    rev32 (foldWords g cfg ws) = (ws.flatMap bytes).foldl reflectedByte 0xFFFFFFFF := by
  have hones : rev32 0xFFFFFFFF = 0xFFFFFFFF := by decide +kernel
  simp only [foldWords_eq_foldl, h, ← List.map_flatMap]
  rw [rev32_foldl_straightByte, hones]

end Sys2Proof.Machine
end

section
/-! PROOFS. The statements about the CRC mathematics. -/

namespace Sys2Proof.Machine

open Expected

/-- Settles O59: the register's shift is linear, so its iterates are. -/
theorem crcStepIsLinear : Obligations.CrcStepIsLinear := by
  unfold Obligations.CrcStepIsLinear
  refine ⟨fun c d => crcShifts_eq_iterate 32 _, fun a b => ?_, by decide +kernel⟩
  have hzero : ∀ x : Word, x ^^^ 0 = x := fun _ => BitVec.xor_zero
  simp only [crc32Step, crcShifts_eq_iterate, hzero]
  exact iterate_shiftPoly_xor 32 a b

/-- Settles O60: the fold runs over the transformed words' bytes, top byte first, and reversal makes the
straight byte steps reflected ones. -/
theorem standardCrcVariants : Obligations.StandardCrcVariants := by
  unfold Obligations.StandardCrcVariants
  intro ws
  refine ⟨congrArg (· ^^^ _) ?_, congrArg (· ^^^ _) ?_, fun g => ⟨?_, congrArg (· ^^^ _) ?_⟩⟩
  · exact rev32_foldWords _ _ _ ws beBytes_rev32
  · exact rev32_foldWords _ _ _ ws beBytes_rev8each
  · exact (BitVec.xor_zero).trans (foldWords_of_straight g _ rfl ws)
  · exact foldWords_of_straight g _ rfl ws

end Sys2Proof.Machine
end

section
/-! SUPPORT. A step in a run after DMA_START: what it keeps, and how the engine, the flag and the indicator
move on (spec/10_state.md R30, R36; 41_dma.md R135; 42_sync.md R151, R155; 43_indicator.md R170, R172). -/

namespace Sys2Proof.Machine

variable {s t : State} {b : Agent}

/-- The three stages of the flag never fall (42_sync.md R156). -/
theorem step_keeps_stages (h : s.Inv) (hs : step s = .next t) :
    (s.flagSrc = true → t.flagSrc = true) ∧ (s.sync1 = true → t.sync1 = true)
      ∧ (s.sync2 = true → t.sync2 = true) := by
  obtain ⟨-, -, ⟨h21, h1s, -⟩, -⟩ := h
  obtain ⟨-, ⟨-, rfl⟩ | ⟨b, hb, -, hstep⟩⟩ := step_cases s t hs
  · exact ⟨id, id, id⟩
  obtain ⟨hflag, hsync, -⟩ := singleWriters s t b hb hs
  cases b with
  | handler =>
    cases hstep
    exact ⟨fun _ => rfl, id, id⟩
  | sync =>
    cases hstep
    exact ⟨id, h1s, h21⟩
  | host | dma | ind | tick =>
    obtain ⟨hsrc, -⟩ := hflag nofun
    obtain ⟨h1, h2⟩ := hsync nofun
    exact ⟨hsrc.trans, h1.trans, h2.trans⟩

/-- Once started, the engine moves in DMA's steps only (10_state.md R36). -/
theorem engine_kept (hd : s.dmaState ≠ .idle) (hb : s.chooseAgent = some b) (hne : b ≠ .dma)
    (hs : step s = .next t) : t.dmaState = s.dmaState ∧ t.rem = s.rem := by
  have hstep := step_of_chooseAgent hb hs
  cases b with
  | dma => exact absurd rfl hne
  | host =>
    rw [hostStep_frame_of_locked (s := s.nextTurn) hd hstep]
    exact ⟨rfl, rfl⟩
  | handler | sync =>
    cases hstep
    exact ⟨rfl, rfl⟩
  | ind =>
    cases hstep
    rw [indStep_frame]
    exact ⟨rfl, rfl⟩
  | tick =>
    cases hstep
    rw [tickStep_frame]
    exact ⟨rfl, rfl⟩

/-- A DMA step of a run that does not fault moves a word, and the last one ends the transfer (41_dma.md R135,
R136). -/
theorem step_of_dma {ctl : DmaCtl} (h : s.Inv) (hctl : s.dmaCtl = some ctl) (hb : s.chooseAgent = some .dma)
    (hs : step s = .next t) (hf : t.fault = none) :
    (s.rem = 1 → t.dmaState = .done ∧ t.evtRaw = ctl.intEn)
      ∧ (s.rem ≠ 1 → t.dmaState = .busy ∧ t.rem = s.rem - 1) := by
  have hbusy : s.dmaState = .busy := by
    simpa [State.enabled] using (Bool.and_eq_true_iff.mp (chooseAgent_enabled s _ hb)).2
  obtain ⟨p, hp⟩ := exists_programmed (s := s.nextTurn) h (by simp [hbusy])
  obtain rfl : p.ctl = ctl := Option.some.inj (hp.ctl.symm.trans hctl)
  cases step_of_chooseAgent hb hs
  rcases dmaStep_cases s.nextTurn with ⟨u, hu, he⟩ | ⟨c, -, he⟩
  · obtain ⟨w, -, hw, -⟩ := dmaWord_ok _ u hu
    obtain ⟨c, -, hmove⟩ := dmaWord_of_moving (moving_of_programmed (s := s.nextTurn) h hp hbusy) hw
    rw [dmaStep_of_ok hmove]
    constructor <;> intro hlast
    · rw [if_pos (show s.nextTurn.rem = 1 from hlast)]
      exact ⟨rfl, rfl⟩
    · rw [if_neg (show s.nextTurn.rem ≠ 1 from hlast)]
      exact ⟨hbusy, rfl⟩
  · rw [he] at hf
    cases hf

/-- IND_SEE as the machine's step (43_indicator.md R170). -/
theorem step_of_indSee (hi : s.indState = .waiting) (hb : s.chooseAgent = some .ind)
    (hs : step s = .next t) : t.indState = .checking := by
  cases step_of_chooseAgent hb hs
  simp [indStep, hi, indSee]

/-- IND_CHECK as the machine's step: it faults or gives the verdict (43_indicator.md R172). -/
theorem step_of_indCheck (hi : s.indState = .checking) (hb : s.chooseAgent = some .ind)
    (hs : step s = .next t) (hf : t.fault = none) :
    t.indState = .verified ∨ t.indState = .mismatchBlink := by
  cases step_of_chooseAgent hb hs
  have hcheck : indStep s.nextTurn = indCheck s.nextTurn := by simp [indStep, hi]
  rw [hcheck] at hf ⊢
  unfold indCheck at hf ⊢
  split_ifs at hf ⊢
  · exact .inr rfl
  · exact .inl rfl
  · cases hf

/-- `s` is a state of the fault-free run that `s0` started: the invariant holds, the engine is started, and
the programmed registers and the launch memory are those of `s0` (10_state.md R30). -/
structure State.InRunOf (s s0 : State) : Prop where
  inv : s.Inv
  fault : s.fault = none
  started : s.dmaState ≠ .idle
  crcCfg : s.crcCfg = s0.crcCfg
  crcSeed : s.crcSeed = s0.crcSeed
  crcCheck : s.crcCheck = s0.crcCheck
  dmaSar : s.dmaSar = s0.dmaSar
  dmaCtl : s.dmaCtl = s0.dmaCtl
  dmaBlock : s.dmaBlock = s0.dmaBlock
  evtEn : s.evtEn = s0.evtEn
  params : s.params = s0.params
  mem : s.mem = s0.mem

/-- The engine never comes back to IDLE (41_dma.md R139). -/
theorem started_of_step (h : s.Inv) (hd : s.dmaState ≠ .idle) (hs : step s = .next t)
    (hf : t.fault = none) : t.dmaState ≠ .idle := by
  obtain ⟨-, ⟨-, rfl⟩ | ⟨b, hb, -⟩⟩ := step_cases s t hs
  · exact hd
  by_cases hne : b = .dma
  · subst hne
    obtain ⟨p, hp⟩ := exists_programmed h hd
    obtain ⟨hlast, hmore⟩ := step_of_dma h hp.ctl hb hs hf
    by_cases h1 : s.rem = 1
    · simp [hlast h1]
    · simp [hmore h1]
  · rw [(engine_kept hd hb hne hs).1]
    exact hd

theorem inRunOf_step {s0 : State} (h : s.InRunOf s0) (hs : step s = .next t) (hf : t.fault = none) :
    t.InRunOf s0 := by
  obtain ⟨hcfg, hseed, hcheck, -, -, hsar, -, hctl, hblock, hen, -⟩ :=
    configurationImmutableInRun s t h.started hs
  obtain ⟨-, ⟨a, c, rfl⟩ | hlaunch⟩ := step_raise_or_sameLaunch hs
  · cases hf
  exact {
    inv := stepKeepsInvariant s t h.inv hs
    fault := hf
    started := started_of_step h.inv h.started hs hf
    crcCfg := hcfg.trans h.crcCfg
    crcSeed := hseed.trans h.crcSeed
    crcCheck := hcheck.trans h.crcCheck
    dmaSar := hsar.trans h.dmaSar
    dmaCtl := hctl.trans h.dmaCtl
    dmaBlock := hblock.trans h.dmaBlock
    evtEn := hen.trans h.evtEn
    params := hlaunch.params.trans h.params
    mem := hlaunch.mem.trans h.mem }

theorem mismatchOf_blockCrc_of_inRunOf {s0 : State} (h : s.InRunOf s0) (n : Nat) :
    s.mismatchOf (s.blockCrc n) = s0.mismatchOf (s0.blockCrc n) := by
  simp only [State.mismatchOf, State.blockCrc, h.crcCfg, h.crcSeed, h.crcCheck, h.dmaSar, h.params, h.mem]

end Sys2Proof.Machine
end

section
/-! SUPPORT. Weakly fair runs (spec/60_exceptions.md R220, R221): each agent in turn moves the run on to the
verdict. -/

namespace Sys2Proof.Machine

variable {run : Nat → State} {n : Nat}

/-- Every state of an endless run that starts BUSY is in the run of its first state: none of them holds a
record, since each one steps. -/
theorem inRunOf_of_isRun (hrun : IsRun run) (h : (run 0).Inv) (hd : (run 0).dmaState ≠ .idle) (m : Nat) :
    (run m).InRunOf (run 0) := by
  have hf : ∀ m, (run m).fault = none := fun m => (step_cases _ _ (hrun m)).1
  induction m with
  | zero => exact ⟨h, hf 0, hd, rfl, rfl, rfl, rfl, rfl, rfl, rfl, rfl, rfl⟩
  | succ m ih => exact inRunOf_step ih (hrun m) (hf (m + 1))

/-- An agent moves at last, if a condition enables it that no other agent's step ends. -/
theorem moves_of_weaklyFair {P : State → Prop} {a : Agent} (hfair : WeaklyFair run)
    (hen : ∀ m, P (run m) → (run m).enabled a = true)
    (hkeep : ∀ m b, P (run m) → (run m).chooseAgent = some b → b ≠ a → P (run (m + 1)))
    (h : P (run n)) : ∃ m, P (run m) ∧ (run m).chooseAgent = some a := by
  by_contra hno
  have hnever : ∀ m, P (run m) → (run m).chooseAgent ≠ some a := fun m hm hc => hno ⟨m, hm, hc⟩
  have hstay : ∀ m, n ≤ m → P (run m) := by
    intro m hm
    induction m, hm using Nat.le_induction with
    | base => exact h
    | succ m _ ih =>
      cases hc : (run m).chooseAgent with
      | none =>
        have hmem := (mem_enabledAgents _ a).mpr (hen m ih)
        simp [(chooseAgent_eq_none _).mp hc] at hmem
      | some b => exact hkeep m b ih hc fun e => hnever m ih (e ▸ hc)
  obtain ⟨m, hm, hc⟩ := hfair a n fun m hm => hen m (hstay m hm)
  exact hnever m (hstay m hm) hc

/-- From HANDLER's step on, the handler count is 1 (42_sync.md R152). -/
theorem handlerCount_of_flag (hrun : IsRun run) (hof : ∀ m, (run m).InRunOf (run 0))
    (h : (run n).flagSrc = true) (m : Nat) (hm : n ≤ m) : (run m).handlerCount = 1 := by
  have hsrc : (run m).flagSrc = true := by
    induction m, hm using Nat.le_induction with
    | base => exact h
    | succ m _ ih =>
      obtain ⟨hstay, -⟩ := step_keeps_stages (hof m).inv (hrun m)
      exact hstay ih
  obtain ⟨-, -, ⟨-, -, hcount, -⟩, -⟩ := (hof m).inv
  rw [hcount, hsrc]
  rfl

section
variable (hrun : IsRun run) (hfair : WeaklyFair run) (hof : ∀ m, (run m).InRunOf (run 0))
include hrun hfair hof

/-- While BUSY, DMA moves at last, and until then the words that are left stay (41_dma.md R135). -/
theorem reaches_dma_step (hb : (run n).dmaState = .busy) :
    ∃ m, (run m).rem = (run n).rem ∧ (run m).chooseAgent = some .dma := by
  obtain ⟨m, ⟨-, hr⟩, hc⟩ : ∃ m, ((run m).dmaState = .busy ∧ (run m).rem = (run n).rem)
      ∧ (run m).chooseAgent = some .dma := by
    refine moves_of_weaklyFair (P := fun s => s.dmaState = .busy ∧ s.rem = (run n).rem) hfair
      (fun m ⟨hb, _⟩ => by simp [State.enabled, (hof m).fault, hb]) (fun m b ⟨hb, hr⟩ hc hne => ?_)
      ⟨hb, rfl⟩
    obtain ⟨hstate, hrem⟩ := engine_kept (hof m).started hc hne (hrun m)
    exact ⟨hstate.trans hb, hrem.trans hr⟩
  exact ⟨m, hr, hc⟩

/-- DMA moves the words that are left, and the last one raises the event (41_dma.md R135, R136). -/
theorem reaches_event {ctl : DmaCtl} (hctl : (run 0).dmaCtl = some ctl) (hint : ctl.intEn = true) (k : Nat)
    (hb : (run n).dmaState = .busy) (hk : (run n).rem.toNat = k + 1) :
    ∃ m, (run m).dmaState = .done ∧ (run m).evtRaw = true := by
  induction k generalizing n with
  | zero =>
    obtain ⟨m, hr, hc⟩ := reaches_dma_step hrun hfair hof hb
    obtain ⟨hlast, -⟩ :=
      step_of_dma (hof m).inv ((hof m).dmaCtl.trans hctl) hc (hrun m) (hof (m + 1)).fault
    obtain ⟨hdone, hraw⟩ := hlast (by bv_omega)
    exact ⟨m + 1, hdone, hraw.trans hint⟩
  | succ k ih =>
    obtain ⟨m, hr, hc⟩ := reaches_dma_step hrun hfair hof hb
    obtain ⟨-, hmore⟩ :=
      step_of_dma (hof m).inv ((hof m).dmaCtl.trans hctl) hc (hrun m) (hof (m + 1)).fault
    obtain ⟨hbusy, hrem⟩ := hmore (by bv_omega)
    exact ih hbusy (by bv_omega)

/-- HANDLER takes the event, and the stages of the flag are still down (42_sync.md R151, R156). -/
theorem reaches_flag (hen : (run 0).evtEn = true) (hraw : (run n).evtRaw = true) :
    ∃ m, (run m).flagSrc = true ∧ (run m).sync1 = false ∧ (run m).sync2 = false := by
  obtain ⟨m, hraw, hc⟩ : ∃ m, (run m).evtRaw = true ∧ (run m).chooseAgent = some .handler := by
    refine moves_of_weaklyFair (P := fun s => s.evtRaw = true) hfair
      (fun m hm => by simp [State.enabled, (hof m).fault, State.irq, hm, (hof m).evtEn, hen])
      (fun m b hm hb hne => ?_) hraw
    obtain ⟨-, -, ⟨-, -, -, hev, -⟩, -⟩ := (hof m).inv
    have hdma : b ≠ .dma := by
      rintro rfl
      have hena := chooseAgent_enabled _ _ hb
      simp [State.enabled, (hev hm).1] at hena
    obtain ⟨-, -, -, -, -, hsame⟩ := singleWriters _ _ b hb (hrun m)
    exact (hsame hdma hne).trans hm
  obtain ⟨-, -, hflag, -⟩ := (hof m).inv
  have hdown := hflag
  obtain ⟨-, -, -, hev, -⟩ := hdown
  obtain ⟨h1, h2⟩ := stages_down_of_flag_down hflag (hev hraw).2
  refine ⟨m + 1, ?_⟩
  rw [← Host.Outcome.next.inj (step_of_chooseAgent hc (hrun m))]
  exact ⟨rfl, h1, h2⟩

/-- SYNC moves the flag up one stage (42_sync.md R155). -/
theorem reaches_next_stage {b1 : Bool}
    (h : (run n).flagSrc = true ∧ (run n).sync1 = b1 ∧ (run n).sync2 = false) :
    ∃ m, (run m).flagSrc = true ∧ (run m).sync1 = true ∧ (run m).sync2 = b1 := by
  obtain ⟨m, ⟨hsrc, h1, -⟩, hc⟩ : ∃ m, ((run m).flagSrc = true ∧ (run m).sync1 = b1
      ∧ (run m).sync2 = false) ∧ (run m).chooseAgent = some .sync := by
    refine moves_of_weaklyFair (P := fun s => s.flagSrc = true ∧ s.sync1 = b1 ∧ s.sync2 = false) hfair
      (fun m ⟨hsrc, h1, h2⟩ => by cases b1 <;> simp [State.enabled, (hof m).fault, hsrc, h1, h2])
      (fun m b ⟨hsrc, h1, h2⟩ hb hne => ?_) h
    obtain ⟨-, hsync, -⟩ := singleWriters _ _ b hb (hrun m)
    obtain ⟨e1, e2⟩ := hsync hne
    obtain ⟨hstay, -⟩ := step_keeps_stages (hof m).inv (hrun m)
    exact ⟨hstay hsrc, e1.trans h1, e2.trans h2⟩
  refine ⟨m + 1, ?_⟩
  rw [← Host.Outcome.next.inj (step_of_chooseAgent hc (hrun m))]
  exact ⟨hsrc, hsrc, h1⟩

/-- IND sees the visible flag (43_indicator.md R170). -/
theorem reaches_checking (h2 : (run n).sync2 = true) (hi : (run n).indState = .waiting) :
    ∃ m, (run m).indState = .checking := by
  obtain ⟨m, ⟨-, hi⟩, hc⟩ : ∃ m, ((run m).sync2 = true ∧ (run m).indState = .waiting)
      ∧ (run m).chooseAgent = some .ind := by
    refine moves_of_weaklyFair (P := fun s => s.sync2 = true ∧ s.indState = .waiting) hfair
      (fun m ⟨h2, hi⟩ => by simp [State.enabled, (hof m).fault, State.indReady, h2, hi])
      (fun m b ⟨h2, hi⟩ hb hne => ?_) ⟨h2, hi⟩
    obtain ⟨-, -, hind, -⟩ := singleWriters _ _ b hb (hrun m)
    obtain ⟨-, -, hstay⟩ := step_keeps_stages (hof m).inv (hrun m)
    exact ⟨hstay h2, (hind hne).trans hi⟩
  exact ⟨m + 1, step_of_indSee hi hc (hrun m)⟩

/-- IND checks the result (43_indicator.md R172). -/
theorem reaches_verdict_of_checking (hi : (run n).indState = .checking) :
    ∃ m, (run m).indState = .verified ∨ (run m).indState = .mismatchBlink := by
  obtain ⟨m, hi, hc⟩ : ∃ m, (run m).indState = .checking ∧ (run m).chooseAgent = some .ind := by
    refine moves_of_weaklyFair (P := fun s => s.indState = .checking) hfair
      (fun m hi => by simp [State.enabled, (hof m).fault, State.indReady, hi])
      (fun m b hi hb hne => ?_) hi
    obtain ⟨-, -, hind, -⟩ := singleWriters _ _ b hb (hrun m)
    exact (hind hne).trans hi
  exact ⟨m + 1, step_of_indCheck hi hc (hrun m) (hof (m + 1)).fault⟩

/-- With the flag visible, the verdict comes (60_exceptions.md R220). -/
theorem reaches_verdict (h2 : (run n).sync2 = true) :
    ∃ m, (run m).indState = .verified ∨ (run m).indState = .mismatchBlink := by
  cases hi : (run n).indState with
  | waiting =>
    obtain ⟨m, hm⟩ := reaches_checking hrun hfair hof h2 hi
    exact reaches_verdict_of_checking hrun hfair hof hm
  | checking => exact reaches_verdict_of_checking hrun hfair hof hi
  | verified => exact ⟨n, .inl hi⟩
  | mismatchBlink => exact ⟨n, .inr hi⟩

end

end Sys2Proof.Machine
end

section
/-! PROOFS. The fair run to the verdict. -/

namespace Sys2Proof.Machine

/-- Settles O57: DMA ends the transfer, HANDLER takes the event, SYNC moves the flag twice and IND twice. -/
theorem fairRunReachesVerdict : Obligations.FairRunReachesVerdict := by
  unfold Obligations.FairRunReachesVerdict
  intro run ctl hrun hfair hinv hb hen hctl hint
  have hof := inRunOf_of_isRun hrun hinv (by simp [hb])
  have hrem : (run 0).rem ≠ 0 := by
    obtain ⟨-, -, -, ⟨-, -, hleft, -⟩, -⟩ := hinv
    exact hleft hb
  obtain ⟨n1, hdone, hraw⟩ := reaches_event hrun hfair hof hctl hint ((run 0).rem.toNat - 1) hb (by bv_omega)
  obtain ⟨n2, hflag⟩ := reaches_flag hrun hfair hof hen hraw
  obtain ⟨n3, h3⟩ := reaches_next_stage hrun hfair hof hflag
  obtain ⟨n4, -, -, h2⟩ := reaches_next_stage hrun hfair hof h3
  obtain ⟨n5, hi⟩ := reaches_verdict hrun hfair hof h2
  obtain ⟨-, hsize, hverdict⟩ := verdict_of_inv (hof n5).inv hi
  refine ⟨⟨n1, hdone⟩, ⟨n2, handlerCount_of_flag hrun hof hflag.1⟩, n5, (run n5).count.toNat, ?_, hi, ?_⟩
  · rw [← hsize, State.blockSize, State.blockSize, (hof n5).dmaBlock]
  · rw [← mismatchOf_blockCrc_of_inRunOf (hof n5), hverdict]
    simp

end Sys2Proof.Machine
end

section
/-! SUPPORT. DMA_START (spec/41_dma.md R131): its unwritten check, and its descriptor checks on numbers. -/

namespace Sys2Proof.Machine

open Expected

variable {d : Word} {s : State} {o : StartOperands}

/-- GO = 0 passes every check of R78 and only advances. -/
theorem exec_wrDmaStart_zero (s : State) : exec (.wrDmaStart 0) s = .next (done s) := by
  have hcheck : writeCheck .dmaStart 0 s = none :=
    (writeCheck_eq_none _ _ _).mpr ⟨by decide, nofun, BitVec.zero_and⟩
  rw [exec, execWrDmaStart, hostWrite, hcheck]
  rfl

/-- DMA_START's word is checked for reserved bits in every state of the engine. -/
theorem exec_wrDmaStart_reserved (h : 2 ≤ d.toNat) :
    exec (.wrDmaStart d) s = .next (hostFault s .reserved (.offsetData 0x114 d)) := by
  have hmask : d &&& Reg.dmaStart.reserved = 0 ↔ d.toNat < 2 := and_highBits_eq_zero_iff 1
  exact exec_of_writeCheck (i := .wrDmaStart d) rfl
    (writeCheck_eq_reserved (r := .dmaStart) (by decide) nofun (hmask.not.mpr (by omega)))

/-- One use in a list of uses: `q` is the first register of the list that is unwritten. -/
theorem written_bind_error {α β : Type} {r q : Reg} {v : Option α} {f : α → Except Cause β}
    {rest : Option Reg} (h : (if v = none then some r else rest) = some q)
    (hrest : ∀ a, rest = some q → f a = .error ⟨.unwritten, .register q⟩) :
    (written r v >>= f) = .error ⟨.unwritten, .register q⟩ := by
  cases v with
  | none =>
    obtain rfl : r = q := Option.some.inj h
    rfl
  | some a => exact hrest a h

/-- The start is F_UNWRITTEN with the first unwritten register of R131's list. -/
theorem startOperands_of_firstUnwritten {r : Reg} (h : firstUnwritten s = some r) :
    startOperands s = .error ⟨.unwritten, .register r⟩ := by
  unfold firstUnwritten at h
  exact written_bind_error h fun _ h => written_bind_error h fun _ h => written_bind_error h fun _ h =>
    written_bind_error h fun _ h => written_bind_error h fun _ h => written_bind_error h fun _ h =>
    written_bind_error h fun _ h => written_bind_error h fun _ h => nomatch h

/-- Past the unwritten check, the CRC registers that the start does not read are written too. -/
theorem crcWritten_of_firstUnwritten (h : firstUnwritten s = none) :
    s.crcCfg.isSome = true ∧ s.crcSeed.isSome = true ∧ s.crcCheck.isSome = true := by
  unfold firstUnwritten at h
  split_ifs at h with _ _ _ _ hcfg hseed hcheck
  exact ⟨Option.isSome_iff_ne_none.mpr hcfg, Option.isSome_iff_ne_none.mpr hseed,
    Option.isSome_iff_ne_none.mpr hcheck⟩

theorem extractLsb'_two_eq_zero_iff (a : Word) : a.extractLsb' 0 2 = 0 ↔ a.toNat % 4 = 0 := by
  rw [← BitVec.toNat_inj, BitVec.extractLsb'_toNat]
  rfl

theorem meetsWindow_eq_true_iff (p : Params) (o : StartOperands) :
    meetsWindow p o = true ↔ o.sar.toNat < p.blockBase.toNat + 0x400
      ∧ p.blockBase.toNat < o.sar.toNat + 4 * o.block.toNat := by
  rw [meetsWindow, Bool.and_eq_true, decide_eq_true_iff, decide_eq_true_iff]
  rfl

theorem setWidth_eq_iff_toNat_eq (n : BitVec 16) (len : Word) : n.setWidth 32 = len ↔ n.toNat = len.toNat := by
  rw [← BitVec.toNat_inj, BitVec.toNat_setWidth_of_le (by decide)]

/-- The expected outcome is the first failing descriptor check over the state as it was, or BUSY. -/
theorem startOn_eq_descriptorCheck (s : State) (o : StartOperands) :
    startOn s o.sar o.dar o.ctl o.block o.length = (descriptorCheck s.params o).elim
      (done { s with dmaState := .busy, curSrc := o.sar, rem := o.block }) (s.raise .host) := by
  have hblock : o.block = 0 ↔ o.block.toNat = 0 := BitVec.toNat_inj.symm
  unfold startOn descriptorCheck
  simp only [ne_eq, hblock, Params.crcIrAddr, Config.crcIrOffset, extractLsb'_two_eq_zero_iff,
    meetsWindow_eq_true_iff, setWidth_eq_iff_toNat_eq]
  split_ifs <;> rfl

/-- From IDLE, with its operands read, the start is R131's descriptor checks and then BUSY. -/
theorem settle_startTransfer (hd : s.dmaState = .idle) (ho : startOperands s = .ok o) :
    s.settle .host (startTransfer s) = startOn s o.sar o.dar o.ctl o.block o.length := by
  rw [startOn_eq_descriptorCheck, startTransfer, if_neg (not_not_intro hd), ho]
  simp only [bind, Except.bind]
  cases descriptorCheck s.params o <;> rfl

/-- From IDLE, the unwritten check is the start's first. -/
theorem startTransfer_of_error {c : Cause} (hd : s.dmaState = .idle) (ho : startOperands s = .error c) :
    startTransfer s = .error c := by
  rw [startTransfer, if_neg (not_not_intro hd), ho]
  rfl

end Sys2Proof.Machine
end

section
/-! SUPPORT. The engine's transitions and its event (spec/41_dma.md R135, R136, R139), and DMA_CTL as it
reads (R126). -/

namespace Sys2Proof.Machine

variable {s t : State}

/-- A word step leaves the engine and the event, or it moves the last word: DONE, and the event with
INT_EN = 1. -/
theorem dmaWord_end_cases (h : dmaWord s = .ok t) :
    (s.rem ≠ 1 ∧ t.dmaState = s.dmaState ∧ t.evtRaw = s.evtRaw)
      ∨ ∃ ctl, s.rem = 1 ∧ s.dmaCtl = some ctl ∧ t.dmaState = .done ∧ t.rem = 0
        ∧ t.evtRaw = (s.evtRaw || ctl.intEn) := by
  have hlast : s.rem - 1 = 0 ↔ s.rem = 1 := by bv_omega
  obtain ⟨w, u, -, hfold, hfinish⟩ := dmaWord_ok s t h
  rw [crcFold_frame hfold] at hfinish
  rcases finishWord_cases _ _ hfinish with ⟨hne, rfl⟩ | ⟨ctl, hz, hctl, rfl⟩
  · exact .inl ⟨hlast.not.mp hne, rfl, rfl⟩
  · exact .inr ⟨ctl, hlast.mp hz, hctl, rfl, hz, rfl⟩

theorem dmaState_of_chosen_dma (hb : s.chooseAgent = some .dma) : s.dmaState = .busy := by
  have he := chooseAgent_enabled s _ hb
  simp only [State.enabled, Bool.and_eq_true, beq_iff_eq] at he
  exact he.2

/-- HOST moves the engine from IDLE to BUSY only. -/
theorem hostStep_dmaState (h : hostStep s = .next t) :
    t.dmaState = s.dmaState ∨ (s.dmaState = .idle ∧ t.dmaState = .busy) := by
  by_cases hd : s.dmaState = .idle
  · rcases hostStep_exec_or_frame h with ⟨i, hi⟩ | ht
    · rcases exec_next_cases hi with ⟨c, rfl⟩ | ⟨-, v, rfl⟩ | ⟨-, rfl⟩ | ⟨-, o, rfl⟩
      · exact .inl rfl
      · exact .inl rfl
      · exact .inl (by simp)
      · exact .inr ⟨hd, rfl⟩
    · rw [ht]
      exact .inl rfl
  · rw [hostStep_frame_of_locked hd h]
    exact .inl rfl

/-- DMA leaves the engine or ends the transfer. -/
theorem dmaStep_dmaState (s : State) : (dmaStep s).dmaState = s.dmaState ∨ (dmaStep s).dmaState = .done := by
  rcases dmaStep_cases s with ⟨t, ht, he⟩ | ⟨c, -, he⟩ <;> rw [he]
  · rcases dmaWord_end_cases ht with ⟨-, hsame, -⟩ | ⟨_, -, -, hdone, -⟩
    · exact .inl hsame
    · exact .inr hdone
  · exact .inl rfl

/-- DMA's step raises the event only with the last word, and with INT_EN = 1. -/
theorem dmaStep_raises_event (h0 : s.evtRaw = false) (h1 : (dmaStep s).evtRaw = true) :
    s.rem = 1 ∧ (dmaStep s).dmaState = .done ∧ ∃ ctl, s.dmaCtl = some ctl ∧ ctl.intEn = true := by
  rcases dmaStep_cases s with ⟨t, ht, he⟩ | ⟨c, -, he⟩ <;> rw [he] at h1 ⊢
  · rcases dmaWord_end_cases ht with ⟨-, -, hsame⟩ | ⟨ctl, hrem, hctl, hdone, -, hevt⟩
    · cases h0.symm.trans (hsame.symm.trans h1)
    · exact ⟨hrem, hdone, ctl, hctl, by simpa [hevt, h0] using h1⟩
  · cases h0.symm.trans h1

theorem toNat_append_eq_add {m n : Nat} (x : BitVec m) (y : BitVec n) :
    (x ++ y).toNat = x.toNat * 2 ^ n + y.toNat := by
  rw [BitVec.toNat_append, ← Nat.shiftLeft_add_eq_or_of_lt y.isLt, Nat.shiftLeft_eq]

/-- DMA_CTL's fields as a number. -/
theorem toWord_dmaCtl_eq (c : DmaCtl) : c.toWord = BitVec.ofNat 32
    (c.width.toNat + 2 ^ 4 * c.burst.toNat + 2 ^ 8 * c.tt.toNat + 2 ^ 12 * c.intEn.toNat) := by
  unfold DmaCtl.toWord
  rw [← BitVec.ofNat_toNat]
  simp only [toNat_append_eq_add, BitVec.toNat_ofBool, BitVec.toNat_ofNat]
  congr 1
  omega

end Sys2Proof.Machine
end

section
/-! PROOFS. The statements about the DMA engine's registers and its transitions. -/

namespace Sys2Proof.Machine

open Expected

/-- Settles O24: the checks of R131 in their order, then the start. -/
theorem dmaStartFollowsR131 : Obligations.DmaStartFollowsR131 := by
  unfold Obligations.DmaStartFollowsR131
  intro d s
  have go : ∀ {t : State}, d.toNat = 1 → s.settle .host (startTransfer s) = t →
      exec (.wrDmaStart d) s = .next t := by
    rintro t hd rfl
    obtain rfl : d = 1 := BitVec.eq_of_toNat_eq hd
    exact exec_wrDmaStart_go s
  refine ⟨decode_opWord (.wrDmaStart d), exec_wrDmaStart_reserved, fun hd => ?_, fun hd hidle => go hd ?_,
    fun hd hidle r hr => go hd ?_,
    fun hd hidle hw sar dar ctl n len hsar hdar hctl hblock hlen => go hd ?_⟩
  · obtain rfl : d = 0 := BitVec.eq_of_toNat_eq hd
    exact exec_wrDmaStart_zero s
  · rw [startTransfer_of_not_idle hidle]
    rfl
  · rw [startTransfer_of_error hidle (startOperands_of_firstUnwritten hr)]
    rfl
  · have ho := (startOperands_eq_ok s ⟨sar, dar, ctl, n, len⟩).mpr
      ⟨hsar, hdar, hctl, hblock, hlen, crcWritten_of_firstUnwritten hw⟩
    exact settle_startTransfer hidle ho

/-- Settles O43: HOST starts the engine, DMA ends the transfer, and no other agent moves it. -/
theorem engineTransitions : Obligations.EngineTransitions := by
  unfold Obligations.EngineTransitions
  refine ⟨fun s t h => ?_, fun s hd => ?_⟩
  · obtain ⟨-, ⟨-, rfl⟩ | ⟨a, ha, -, hstep⟩⟩ := step_cases s t h
    · exact .inl rfl
    cases a with
    | host => exact (hostStep_dmaState hstep).imp_right .inl
    | dma =>
      cases hstep
      exact (dmaStep_dmaState s.nextTurn).imp_right fun hdone => .inr ⟨dmaState_of_chosen_dma ha, hdone⟩
    | handler | sync =>
      cases hstep
      exact .inl rfl
    | ind =>
      cases hstep
      rw [indStep_frame]
      exact .inl rfl
    | tick =>
      cases hstep
      rw [tickStep_frame]
      exact .inl rfl
  · have hidle : s.dmaState ≠ .idle := by rcases hd with h | h <;> simp [h]
    rw [exec_wrDmaStart_go, startTransfer_of_not_idle hidle]
    rfl

/-- Settles O44: HANDLER clears the event, and DMA raises it with the last word. -/
theorem eventOnlyAtLastWord : Obligations.EventOnlyAtLastWord := by
  unfold Obligations.EventOnlyAtLastWord
  refine ⟨fun s t h h0 h1 => ?_, fun s t ctl hrem hctl h => ?_⟩
  · obtain ⟨-, ⟨-, rfl⟩ | ⟨a, ha, -, hstep⟩⟩ := step_cases s t h
    · cases h0.symm.trans h1
    obtain ⟨-, -, -, -, -, hevt⟩ := singleWriters s t a ha h
    cases a with
    | dma =>
      cases hstep
      obtain ⟨hrem, hdone, hint⟩ := dmaStep_raises_event (s := s.nextTurn) h0 h1
      exact ⟨ha, dmaState_of_chosen_dma ha, hrem, hdone, hint⟩
    | handler =>
      cases hstep
      cases h1
    | host | sync | ind | tick => cases h0.symm.trans ((hevt nofun nofun).symm.trans h1)
  · rcases dmaWord_end_cases h with ⟨hne, -⟩ | ⟨ctl', -, hctl', hdone, hzero, hevt⟩
    · exact absurd hrem hne
    · obtain rfl : ctl' = ctl := Option.some.inj (hctl'.symm.trans hctl)
      exact ⟨hdone, hzero, hevt⟩

/-- Settles O21: no bit of an address is reserved. -/
theorem wrDmaSarAndDar : Obligations.WrDmaSarAndDar := by
  unfold Obligations.WrDmaSarAndDar
  intro d s
  exact ⟨decode_opWord (.wrDmaSar d), decode_opWord (.wrDmaDar d),
    fun hd => ⟨exec_eq_locked rfl rfl hd, exec_eq_locked rfl rfl hd⟩,
    fun hd => ⟨exec_eq_store rfl rfl nofun hd BitVec.and_zero,
      exec_eq_store rfl rfl nofun hd BitVec.and_zero⟩⟩

/-- Settles O22: the checks of R78 in their order, then the store of the four fields. -/
theorem wrDmaCtl : Obligations.WrDmaCtl := by
  unfold Obligations.WrDmaCtl
  intro d s
  exact ⟨decode_opWord (.wrDmaCtl d), fun hd => exec_eq_locked rfl rfl hd,
    fun hd hres => exec_eq_reserved rfl rfl hd hres, fun hd hres => exec_eq_store rfl rfl nofun hd hres⟩

/-- Settles O23: the checks of R78 in their order, then the store of the low bits. -/
theorem wrDmaBlockAndEvten : Obligations.WrDmaBlockAndEvten := by
  unfold Obligations.WrDmaBlockAndEvten
  intro d s
  have hblock : d &&& Reg.dmaBlock.reserved = 0 ↔ d.toNat < 2 ^ 16 := and_highBits_eq_zero_iff 16
  have hevten : d &&& Reg.dmaEvten.reserved = 0 ↔ d.toNat < 2 := and_highBits_eq_zero_iff 1
  exact ⟨decode_opWord (.wrDmaBlock d), decode_opWord (.wrDmaEvten d),
    fun hd => ⟨exec_eq_locked rfl rfl hd, exec_eq_locked rfl rfl hd⟩,
    fun hd hge => exec_eq_reserved rfl rfl hd (hblock.not.mpr (by omega)),
    fun hd hlt => exec_eq_store rfl rfl nofun hd (hblock.mpr hlt),
    fun hd hge => exec_eq_reserved rfl rfl hd (hevten.not.mpr (by omega)),
    fun hd hlt => exec_eq_store rfl rfl nofun hd (hevten.mpr hlt)⟩

/-- Settles O25: R131's last clause (O24), where no check fails. -/
theorem dmaStartAccepts : Obligations.DmaStartAccepts := by
  unfold Obligations.DmaStartAccepts
  intro s sar ctl n hd hsar hdar hctl hblock hlen hcfg hseed hcheck hwidth htt hpos hmax halign hend hwindow
  have hwritten : firstUnwritten s = none := by
    simp [firstUnwritten, hsar, hdar, hctl, hblock, hlen, hcfg, hseed, hcheck]
  have hlength : n.toNat = (n.setWidth 32).toNat := (setWidth_eq_iff_toNat_eq n _).mp rfl
  obtain ⟨-, -, -, -, -, hstart⟩ := dmaStartFollowsR131 1 s
  rw [hstart rfl hd hwritten sar _ ctl n _ hsar hdar hctl hblock hlen, startOn,
    if_neg (not_not_intro hwidth), if_neg (not_not_intro htt), if_neg (by omega), if_neg (not_not_intro rfl),
    if_neg (not_not_intro halign), if_neg (Nat.not_lt_of_le hend), if_neg (by omega),
    if_neg (not_not_intro hlength)]

/-- Settles O26: four reads of stored registers. -/
theorem rdDmaDescriptor : Obligations.RdDmaDescriptor := by
  unfold Obligations.RdDmaDescriptor
  intro s
  exact ⟨fun h => exec_eq_unwritten (r := .dmaSar) rfl h, fun w h => exec_eq_readDone (r := .dmaSar) rfl h,
    fun h => exec_eq_unwritten (r := .dmaDar) rfl h, fun w h => exec_eq_readDone (r := .dmaDar) rfl h,
    fun h => exec_eq_unwritten (r := .dmaCtl) rfl (by rw [h]; rfl),
    fun c h => exec_eq_readDone (r := .dmaCtl) rfl (by rw [h, ← toWord_dmaCtl_eq]; rfl),
    fun h => exec_eq_unwritten (r := .dmaBlock) rfl (by rw [h]; rfl),
    fun b h => exec_eq_readDone (r := .dmaBlock) rfl (by rw [h, BitVec.ofNat_toNat]; rfl)⟩

end Sys2Proof.Machine
end

section
/-! SUPPORT. The completion flag: who moves it, and what WAITFLAG waits for (spec/42_sync.md R151, R155, R156,
R158). -/

namespace Sys2Proof.Machine

open Expected

variable {s t : State}

/-- What every other agent's step keeps, only `a`'s step changes. -/
theorem chooseAgent_of_changed {α : Type} {f : State → α} {a : Agent} (hs : step s = .next t)
    (hkeep : ∀ b, s.chooseAgent = some b → b ≠ a → f t = f s) (hne : f t ≠ f s) :
    s.chooseAgent = some a := by
  obtain ⟨-, ⟨-, rfl⟩ | ⟨b, hb, -, -⟩⟩ := step_cases s t hs
  · exact absurd rfl hne
  · obtain rfl : b = a := by
      by_contra hba
      exact hne (hkeep b hb hba)
    exact hb

/-- The flag changes in HANDLER's step only (42_sync.md R151). -/
theorem chosen_handler_of_flagSrc_ne (hs : step s = .next t) (hne : t.flagSrc ≠ s.flagSrc) :
    s.chooseAgent = some .handler := by
  refine chooseAgent_of_changed (f := State.flagSrc) hs (fun b hb hbh => ?_) hne
  obtain ⟨hflag, -⟩ := singleWriters s t b hb hs
  exact (hflag hbh).1

/-- The two stages change in SYNC's step only (42_sync.md R155). -/
theorem chosen_sync_of_stages_ne (hs : step s = .next t) (hne : (t.sync1, t.sync2) ≠ (s.sync1, s.sync2)) :
    s.chooseAgent = some .sync := by
  refine chooseAgent_of_changed (f := fun u => (u.sync1, u.sync2)) hs (fun b hb hbs => ?_) hne
  obtain ⟨-, hsync, -⟩ := singleWriters s t b hb hs
  obtain ⟨h1, h2⟩ := hsync hbs
  rw [h1, h2]

/-- SYNC's step as the machine's shifts both stages. -/
theorem step_of_sync (ha : s.chooseAgent = some .sync) (hs : step s = .next t) :
    t.sync1 = s.flagSrc ∧ t.sync2 = s.sync1 := by
  cases step_of_chooseAgent ha hs
  exact ⟨rfl, rfl⟩

/-- At WAITFLAG, HOST has a step before DMA_START, to fault, and with the flag visible, to pass. -/
theorem enabled_host_of_waitflag (hf : s.fault = none) (hop : s.hostProg[s.hpc]? = some .waitflag) :
    s.enabled .host = true ↔ s.dmaState = .idle ∨ s.sync2 = true := by
  simp [State.enabled, State.hostReady, State.nextOp, hf, hop]

theorem hostStep_of_waitflag (hop : s.hostProg[s.hpc]? = some .waitflag) :
    hostStep s = .next (waitflagStep s) := by
  rw [hostStep, State.nextOp, hop]

theorem waitflagStep_of_idle (hd : s.dmaState = .idle) : waitflagStep s = hostFault s .order .waitflag :=
  if_pos hd

theorem waitflagStep_of_visible (hd : s.dmaState ≠ .idle) (h2 : s.sync2 = true) :
    waitflagStep s = done s :=
  (if_neg hd).trans (if_pos h2)

/-- HANDLER is enabled exactly by the interrupt (42_sync.md R150). -/
theorem enabled_handler (hf : s.fault = none) :
    s.enabled .handler = true ↔ s.evtRaw = true ∧ s.evtEn = true := by
  simp [State.enabled, State.irq, hf]

/-- SYNC is enabled exactly by a stage that lags (42_sync.md R155). -/
theorem enabled_sync (hf : s.fault = none) :
    s.enabled .sync = true ↔ s.sync1 ≠ s.flagSrc ∨ s.sync2 ≠ s.sync1 := by
  simp [State.enabled, hf]

end Sys2Proof.Machine
end

section
/-! PROOFS. The statements about the handler, the synchronizer and the host's waiting. -/

namespace Sys2Proof.Machine

/-- Settles O48: the invariant orders the stages, and each of them has one writer. -/
theorem flagMonotone : Obligations.FlagMonotone := by
  unfold Obligations.FlagMonotone
  intro s t h hs
  obtain ⟨-, -, ⟨h21, h1s, -⟩, -⟩ := stepKeepsInvariant s t h hs
  refine ⟨⟨h21, h1s⟩, step_keeps_stages h hs, fun ha => step_of_sync ha hs, fun h0 h1 => ?_,
    fun h0 h1 => ?_, fun h0 h1 => ?_⟩
  · exact chosen_handler_of_flagSrc_ne hs (by simp [h0, h1])
  · have ha := chosen_sync_of_stages_ne hs (by simp [h0, h1])
    obtain ⟨hshift, -⟩ := step_of_sync ha hs
    exact ⟨ha, hshift.symm.trans h1⟩
  · have ha := chosen_sync_of_stages_ne hs (by simp [h0, h1])
    obtain ⟨-, hshift⟩ := step_of_sync ha hs
    exact ⟨ha, hshift.symm.trans h1⟩

/-- Settles O5: in IDLE, with the flag down and with it visible. -/
theorem waitflagFollowsR158 : Obligations.WaitflagFollowsR158 := by
  unfold Obligations.WaitflagFollowsR158
  intro s hf hop
  have hen := enabled_host_of_waitflag hf hop
  rw [hostStep_of_waitflag hop]
  refine ⟨fun hd => ⟨hen.mpr (.inl hd), congrArg _ (waitflagStep_of_idle hd)⟩, fun hd h2 => ?_,
    fun hd h2 => ⟨hen.mpr (.inr h2), congrArg _ (waitflagStep_of_visible hd h2)⟩⟩
  simp [State.enabled, hostReady_of_waiting hop hd h2]

/-- Settles O27: the two branches of R157. -/
theorem rdSyncSts : Obligations.RdSyncSts := by
  unfold Obligations.RdSyncSts
  refine fun s => ⟨fun hd => congrArg _ (if_pos hd), fun hd => ?_⟩
  rw [← zextBit_eq]
  exact congrArg _ (if_neg hd)

/-- Settles O37: the interrupt enables HANDLER, and its step clears the event. -/
theorem handlerStep_followsR151 : Obligations.HandlerStep := by
  unfold Obligations.HandlerStep
  intro s hf
  refine ⟨enabled_handler hf, rfl, Bool.eq_false_iff.mpr fun he => ?_⟩
  obtain ⟨hraw, -⟩ := (enabled_handler (s := handlerStep s) hf).mp he
  cases hraw

/-- Settles O38: after two shifts no stage lags. -/
theorem syncStep_followsR155 : Obligations.SyncStep := by
  unfold Obligations.SyncStep
  intro s hf
  refine ⟨enabled_sync hf, rfl, rfl, Bool.eq_false_iff.mpr fun he => ?_⟩
  rcases (enabled_sync (s := syncStep (syncStep s)) hf).mp he with h1 | h2
  · exact h1 rfl
  · exact h2 rfl

end Sys2Proof.Machine
end

section
/-! SUPPORT. The indicator and the ticker: when each has a step, what the step does, and where many ticks lead
(spec/43_indicator.md R170, R172, R175, R176, R178). -/

namespace Sys2Proof.Machine

open Expected

variable {d : Word} {s t : State}

/-- IND has a step in CHECKING, and in WAITING with the flag visible. -/
theorem enabled_ind (hf : s.fault = none) : s.enabled .ind = true ↔
    (s.indState = .waiting ∧ s.sync2 = true) ∨ s.indState = .checking := by
  cases hi : s.indState <;> simp [State.enabled, State.indReady, hf, hi]

/-- TICK has a step exactly in MISMATCH_BLINK. -/
theorem enabled_tick (hf : s.fault = none) : s.enabled .tick = true ↔ s.indState = .mismatchBlink := by
  simp [State.enabled, State.armed, hf]

theorem indStep_of_waiting (hi : s.indState = .waiting) : indStep s = { s with indState := .checking } := by
  rw [indStep, hi]
  rfl

theorem indStep_of_checking (hi : s.indState = .checking) : indStep s = indCheck s := by
  rw [indStep, hi]

theorem indCheck_of_no_result (hr : s.resValid = false) :
    indCheck s = { s with fault := some ⟨.undefResult, .ind, 0, .countBit s.count s.autochk⟩ } :=
  if_neg (by simp [hr])

theorem indCheck_of_match (hr : s.resValid = true) (hm : s.resMismatch = false) :
    indCheck s = { s with indState := .verified, out := true } :=
  (if_pos hr).trans (if_neg (by simp [hm]))

theorem indCheck_of_mismatch (hr : s.resValid = true) (hm : s.resMismatch = true) :
    indCheck s = { s with indState := .mismatchBlink, tickCnt := 0 } :=
  (if_pos hr).trans (if_pos hm)

/-- IND_CHECK faults in CHECKING, or leaves it for a verdict. -/
theorem indCheck_indState (s : State) : (indCheck s).indState = s.indState
    ∨ (indCheck s).indState = .verified ∨ (indCheck s).indState = .mismatchBlink := by
  cases hr : s.resValid with
  | false => exact .inl (by rw [indCheck_of_no_result hr])
  | true =>
    cases hm : s.resMismatch with
    | false => exact .inr (.inl (by rw [indCheck_of_match hr hm]))
    | true => exact .inr (.inr (by rw [indCheck_of_mismatch hr hm]))

/-- IND's step takes no transition but R175's. -/
theorem indStep_indState (s : State) : (indStep s).indState = s.indState
    ∨ (s.indState = .waiting ∧ (indStep s).indState = .checking)
    ∨ (s.indState = .checking
      ∧ ((indStep s).indState = .verified ∨ (indStep s).indState = .mismatchBlink)) := by
  cases hi : s.indState with
  | waiting => exact .inr (.inl ⟨rfl, by rw [indStep_of_waiting hi]⟩)
  | checking =>
    rw [indStep_of_checking hi, ← hi]
    exact (indCheck_indState s).imp_right fun hverdict => .inr ⟨rfl, hverdict⟩
  | verified | mismatchBlink =>
    rw [indStep, hi]
    exact .inl hi

/-- The code in the low bits of a status word (10_state.md R27). -/
theorem extractLsb'_statusWord (b5 b4 : Bool) (code : BitVec 2) :
    (statusWord b5 b4 code).extractLsb' 0 2 = code := by
  rw [statusWord, BitVec.extractLsb'_setWidth_of_le (by decide)]
  exact BitVec.extractLsb'_append_eq_right

theorem tickStep_of_wrap (h : s.tickCnt + 1 = s.indThr) :
    tickStep s = { s with tickCnt := 0, out := !s.out } :=
  if_pos h

theorem tickStep_of_count (h : s.tickCnt + 1 ≠ s.indThr) :
    tickStep s = { s with tickCnt := s.tickCnt + 1 } :=
  if_neg h

theorem tickStep_indThr (s : State) : (tickStep s).indThr = s.indThr := by
  rw [tickStep_frame]

/-- Below the threshold a tick counts and stays below it, or wraps and toggles (43_indicator.md R178). -/
theorem tickStep_cases (h : s.tickCnt.toNat < s.indThr.toNat) :
    (s.tickCnt.toNat + 1 < s.indThr.toNat ∧ (tickStep s).tickCnt.toNat = s.tickCnt.toNat + 1
        ∧ (tickStep s).out = s.out)
      ∨ (s.tickCnt.toNat + 1 = s.indThr.toNat ∧ (tickStep s).tickCnt = 0 ∧ (tickStep s).out = !s.out) := by
  have hnat : (s.tickCnt + 1).toNat = s.tickCnt.toNat + 1 := by bv_omega
  by_cases hwrap : s.tickCnt + 1 = s.indThr
  · rw [tickStep_of_wrap hwrap, ← hwrap]
    exact .inr ⟨hnat.symm, rfl, rfl⟩
  · have hne : (s.tickCnt + 1).toNat ≠ s.indThr.toNat := fun e => hwrap (BitVec.eq_of_toNat_eq e)
    rw [tickStep_of_count hwrap]
    exact .inl ⟨by omega, hnat, rfl⟩

/-- After `k` ticks, `q` of which toggled the output, `k` is `q` thresholds and the count. -/
theorem iterate_tickStep (hthr : s.indThr ≠ 0) (hcnt : s.tickCnt = 0) (hout : s.out = false) (k : Nat) :
    (tickStep^[k] s).indThr = s.indThr ∧ (tickStep^[k] s).tickCnt.toNat < s.indThr.toNat
      ∧ ∃ q, (tickStep^[k] s).tickCnt.toNat + s.indThr.toNat * q = k
        ∧ (tickStep^[k] s).out = (q % 2 == 1) := by
  induction k with
  | zero =>
    have hpos : s.tickCnt.toNat < s.indThr.toNat := by bv_omega
    exact ⟨rfl, hpos, 0, by simp [hcnt], hout⟩
  | succ k ih =>
    obtain ⟨hsame, hlt, q, hk, hq⟩ := ih
    rw [Function.iterate_succ_apply']
    refine ⟨(tickStep_indThr _).trans hsame, ?_⟩
    rcases tickStep_cases (hsame.symm ▸ hlt) with ⟨hbelow, hnext, hkeep⟩ | ⟨hwrap, hzero, htoggle⟩
    · rw [hsame] at hbelow
      exact ⟨by omega, q, by omega, hkeep.trans hq⟩
    · rw [hsame] at hwrap
      have hnat : (tickStep (tickStep^[k] s)).tickCnt.toNat = 0 := congrArg BitVec.toNat hzero
      refine ⟨by omega, q + 1, by rw [Nat.mul_succ]; omega, ?_⟩
      rw [htoggle, hq]
      rcases Nat.mod_two_eq_zero_or_one q with h | h <;> simp [Nat.add_mod, h]

/-- The state of the indicator changes in IND's step only, and by R175's transitions only. -/
theorem step_indState (hs : step s = .next t) : t.indState = s.indState
    ∨ (s.indState = .waiting ∧ t.indState = .checking)
    ∨ (s.indState = .checking ∧ (t.indState = .verified ∨ t.indState = .mismatchBlink)) := by
  obtain ⟨-, ⟨-, rfl⟩ | ⟨a, ha, -, hstep⟩⟩ := step_cases s t hs
  · exact .inl rfl
  by_cases hind : a = .ind
  · subst hind
    cases hstep
    exact indStep_indState s.nextTurn
  · obtain ⟨-, -, hkeep, -⟩ := singleWriters s t a ha hs
    exact .inl (hkeep hind)

/-- No step leaves a verdict (43_indicator.md R173, R174). -/
theorem step_keeps_verdict (hi : s.indState = .verified ∨ s.indState = .mismatchBlink)
    (hs : step s = .next t) : t.indState = s.indState := by
  rcases step_indState hs with hsame | ⟨hwaiting, -⟩ | ⟨hchecking, -⟩
  · exact hsame
  · simp [hwaiting] at hi
  · simp [hchecking] at hi

/-- IND has no step with a verdict (43_indicator.md R173, R174). -/
theorem enabled_ind_of_verdict (hi : s.indState = .verified ∨ s.indState = .mismatchBlink) :
    s.enabled .ind = false := by
  rcases hi with hi | hi <;> simp [State.enabled, State.indReady, hi]

/-- The output of VERIFIED is 1 (43_indicator.md R173). -/
theorem out_of_verified (h : s.IndInv) (hi : s.indState = .verified) : s.out = true := by
  obtain ⟨-, -, -, hverified, -, -⟩ := h
  exact (hverified hi).1

/-- The output of WAITING and CHECKING is 0 (43_indicator.md R179). -/
theorem out_before_verdict (h : s.IndInv) (hi : s.indState = .waiting ∨ s.indState = .checking) :
    s.out = false := by
  obtain ⟨-, -, hdark, -, -, -⟩ := h
  exact hdark hi

/-- On an IDLE machine IND_THR has no check left but its own (43_indicator.md R182). -/
theorem exec_wrIndThr_of_idle (hd : s.dmaState = .idle) : exec (.wrIndThr d) s =
    .next (if d = 0 then hostFault s .threshold (.offset 0x308) else done { s with indThr := d }) := by
  have hcheck : writeCheck .indThr d s = none :=
    (writeCheck_eq_none _ _ _).mpr ⟨nofun, fun _ => hd, BitVec.and_zero⟩
  have performed : ∀ f, hostWrite .indThr d s f = f s := fun f => by rw [hostWrite, hcheck]
  exact congrArg _ (performed _)

end Sys2Proof.Machine
end

section
/-! PROOFS. The statements about the indicator and its ticker. -/

namespace Sys2Proof.Machine

/-- Settles O41: the count and the number of toggles are the remainder and the quotient of the ticks. -/
theorem tickerAfterTicks : Obligations.TickerAfterTicks := by
  unfold Obligations.TickerAfterTicks
  refine ⟨fun s k hthr hcnt hout => ?_, fun s hlt => (tickStep_cases hlt).imp_left And.right⟩
  obtain ⟨hsame, hlt, q, hk, hq⟩ := iterate_tickStep hthr hcnt hout k
  obtain ⟨hdiv, hmod⟩ := (Nat.div_mod_unique (Nat.zero_lt_of_lt hlt)).mpr ⟨hk, hlt⟩
  exact ⟨hmod.symm, by rw [hdiv, hq], hsame⟩

/-- Settles O42: the code is IND_STS's low field, and only IND's step changes the state. -/
theorem indicatorTransitions : Obligations.IndicatorTransitions := by
  unfold Obligations.IndicatorTransitions
  exact ⟨⟨rfl, rfl, rfl, rfl, rfl, fun s => extractLsb'_statusWord _ _ _⟩, fun s t hs => step_indState hs⟩

/-- Settles O52: no step leaves a verdict, and the invariant, which every step keeps, fixes the output. -/
theorem terminalStates : Obligations.TerminalStates := by
  unfold Obligations.TerminalStates
  intro s h hf
  have ⟨_, _, _, _, _, hind⟩ := h
  refine ⟨fun hi => ⟨out_of_verified hind hi, enabled_ind_of_verdict (.inl hi), ?_, fun t hs => ?_⟩,
    out_before_verdict hind, fun hi => ⟨enabled_ind_of_verdict (.inr hi), (enabled_tick hf).mpr hi,
      fun t hs => (step_keeps_verdict (.inr hi) hs).trans hi⟩⟩
  · simp [Bool.eq_false_iff, enabled_tick hf, hi]
  · obtain ⟨-, -, -, -, -, hind'⟩ := stepKeepsInvariant s t h hs
    have ht : t.indState = .verified := (step_keeps_verdict (.inl hi) hs).trans hi
    exact ⟨ht, out_of_verified hind' ht⟩

/-- Settles O28: the lock, and on an IDLE machine the check of 0. -/
theorem wrIndThr : Obligations.WrIndThr := by
  unfold Obligations.WrIndThr
  intro d s
  refine ⟨decode_opWord (.wrIndThr d), fun hd => exec_eq_locked rfl rfl hd, fun hd hzero => ?_,
    fun hd hpos => ?_⟩
  · rw [exec_wrIndThr_of_idle hd, if_pos (BitVec.eq_of_toNat_eq hzero)]
  · rw [exec_wrIndThr_of_idle hd, if_neg (by rintro rfl; cases hpos)]

/-- Settles O39: IND_SEE in WAITING, and the three cases of IND_CHECK. -/
theorem indicatorSteps : Obligations.IndicatorSteps := by
  unfold Obligations.IndicatorSteps
  refine fun s hf => ⟨fun hi => ⟨by simp [enabled_ind hf, hi], indStep_of_waiting hi⟩, fun hi => ?_⟩
  rw [indStep_of_checking hi]
  exact ⟨(enabled_ind hf).mpr (.inr hi), indCheck_of_no_result, indCheck_of_match, indCheck_of_mismatch⟩

/-- Settles O40: the two branches of R176. -/
theorem tickStep_followsR176 : Obligations.TickStep := by
  unfold Obligations.TickStep
  exact fun s hf => ⟨enabled_tick hf, tickStep_of_wrap, tickStep_of_count⟩

end Sys2Proof.Machine
end

section
/-! SUPPORT. The info of every fault the block can raise is of the kind R200 lists for its code
(spec/60_exceptions.md R200, R202). -/

namespace Sys2Proof.Machine

open Expected

variable {α β : Type} {a : Agent} {i : Instr} {s t : State}

/-- The info goes with the code (R200). -/
def Cause.Fits (c : Cause) : Prop := infoFits c.code c.info = true

/-- Whatever is raised fits. -/
def RaisesFitting (x : Except Cause α) : Prop := ∀ c, x = .error c → c.Fits

/-- The record, where there is one, fits. -/
def State.RecordFits (s : State) : Prop := ∀ r, s.fault = some r → infoFits r.code r.info = true

theorem raisesFitting_ok (v : α) : RaisesFitting (.ok v) := nofun

theorem raisesFitting_error {c : Cause} (h : c.Fits) : RaisesFitting (.error c : Except Cause α) := by
  rintro _ ⟨⟩
  exact h

theorem raisesFitting_bind {x : Except Cause α} {f : α → Except Cause β} (hx : RaisesFitting x)
    (hf : ∀ v, RaisesFitting (f v)) : RaisesFitting (x >>= f) := by
  cases x with
  | ok v => exact hf v
  | error c => exact raisesFitting_error (hx c rfl)

/-- A use of an unwritten register names the register. -/
theorem raisesFitting_written (r : Reg) (v : Option α) : RaisesFitting (written r v) := by
  cases v with
  | none => exact raisesFitting_error rfl
  | some w => exact raisesFitting_ok w

theorem raisesFitting_overrunCheck (s : State) : RaisesFitting (overrunCheck s) := by
  unfold overrunCheck
  split
  · refine raisesFitting_bind (raisesFitting_written _ _) fun len => ?_
    split
    · exact raisesFitting_error rfl
    · exact raisesFitting_ok _
  · exact raisesFitting_ok _

theorem raisesFitting_latchResult (cfg : CrcCfg) (c : Word) (s : State) :
    RaisesFitting (latchResult cfg c s) := by
  unfold latchResult
  split
  · refine raisesFitting_bind (raisesFitting_written _ _) fun len => ?_
    split
    · exact raisesFitting_bind (raisesFitting_written _ _) fun check => raisesFitting_ok _
    · exact raisesFitting_ok _
  · exact raisesFitting_ok _

theorem raisesFitting_crcFold (w : Word) (s : State) : RaisesFitting (crcFold w s) :=
  raisesFitting_bind (raisesFitting_overrunCheck s) fun _ =>
    raisesFitting_bind (raisesFitting_written _ _) fun cfg =>
    raisesFitting_bind (raisesFitting_written _ _) fun _ => raisesFitting_latchResult cfg _ _

theorem raisesFitting_finishWord (s : State) : RaisesFitting (finishWord s) := by
  unfold finishWord
  split
  · exact raisesFitting_bind (raisesFitting_written _ _) fun ctl => raisesFitting_ok _
  · exact raisesFitting_ok _

theorem raisesFitting_dmaWord (s : State) : RaisesFitting (dmaWord s) := by
  unfold dmaWord
  split
  · exact raisesFitting_error rfl
  · exact raisesFitting_bind (raisesFitting_crcFold _ s) fun t => raisesFitting_finishWord _

theorem raisesFitting_startOperands (s : State) : RaisesFitting (startOperands s) :=
  raisesFitting_bind (raisesFitting_written _ _) fun _ =>
    raisesFitting_bind (raisesFitting_written _ _) fun _ =>
    raisesFitting_bind (raisesFitting_written _ _) fun _ =>
    raisesFitting_bind (raisesFitting_written _ _) fun _ =>
    raisesFitting_bind (raisesFitting_written _ _) fun _ =>
    raisesFitting_bind (raisesFitting_written _ _) fun _ =>
    raisesFitting_bind (raisesFitting_written _ _) fun _ =>
    raisesFitting_bind (raisesFitting_written _ _) fun _ => raisesFitting_ok _

theorem descriptorCheck_fits {p : Params} {o : StartOperands} {c : Cause}
    (h : descriptorCheck p o = some c) : c.Fits := by
  unfold descriptorCheck at h
  split_ifs at h <;> cases h <;> rfl

theorem raisesFitting_startTransfer (s : State) : RaisesFitting (startTransfer s) := by
  unfold startTransfer
  split
  · exact raisesFitting_error rfl
  · refine raisesFitting_bind (raisesFitting_startOperands s) fun o => ?_
    split
    · next c hc => exact raisesFitting_error (descriptorCheck_fits hc)
    · exact raisesFitting_ok _

theorem writeCheck_fits {r : Reg} {d : Word} {c : Cause} (h : writeCheck r d s = some c) : c.Fits := by
  unfold writeCheck at h
  split_ifs at h <;> cases h <;> rfl

theorem raise_recordFits {c : Cause} (h : c.Fits) : (s.raise a c).RecordFits := by
  rintro _ ⟨⟩
  exact h

theorem settle_recordFits {x : Except Cause State} (hx : RaisesFitting x)
    (hok : ∀ t, x = .ok t → t.RecordFits) : (s.settle a x).RecordFits := by
  cases x with
  | ok t => exact hok t rfl
  | error c => exact raise_recordFits (hx c rfl)

theorem hostWrite_recordFits {r : Reg} {d : Word} {f : State → State} (h : (f s).RecordFits) :
    (hostWrite r d s f).RecordFits := by
  rcases hostWrite_cases r d s f with ⟨c, hc, he⟩ | ⟨-, he⟩ <;> rw [he]
  · exact raise_recordFits (writeCheck_fits hc)
  · exact h

theorem readStored_recordFits {r : Reg} {v : Option Word} (h : s.RecordFits) :
    (readStored r v s).RecordFits := by
  rcases readStored_cases r v s with ⟨-, he⟩ | ⟨w, -, he⟩ <;> rw [he]
  · exact raise_recordFits rfl
  · exact h

/-- A host instruction keeps the record or raises one that fits. -/
theorem exec_recordFits (h : s.RecordFits) (he : exec i s = .next t) : t.RecordFits := by
  cases i with
  | wrCrcCfg | wrCrcSeed | wrCrcCheck | wrCrcLength | wrCrcCtrl | wrCrcIr | wrDmaSar | wrDmaDar | wrDmaCtl
    | wrDmaBlock | wrDmaEvten | wrDmaEvtclr | wrSyncSet =>
    cases he
    exact hostWrite_recordFits h
  | wrDmaStart d =>
    cases he
    refine hostWrite_recordFits ?_
    split
    · refine settle_recordFits (raisesFitting_startTransfer s) fun t ht => ?_
      obtain ⟨-, o, -, -, rfl⟩ := (startTransfer_eq_ok s t).mp ht
      exact h
    · exact h
  | wrIndThr d =>
    cases he
    refine hostWrite_recordFits ?_
    split
    · exact raise_recordFits rfl
    · exact h
  | rdCrcCfg | rdCrcSeed | rdCrcCheck | rdCrcLength | rdCrcRes | rdDmaSar | rdDmaDar | rdDmaCtl
    | rdDmaBlock =>
    cases he
    exact readStored_recordFits h
  | rdCrcCtrl | rdCrcCnt | rdDmaEvten | rdDmaSts | rdDmaRem | rdIndSts | rdIndTcnt | rdIndThr =>
    cases he
    exact h
  | rdCrcSts =>
    cases he
    split
    · exact h
    · exact raise_recordFits rfl
  | rdSyncSts =>
    cases he
    split
    · exact raise_recordFits rfl
    · exact h

theorem hostStep_recordFits (h : s.RecordFits) (hs : hostStep s = .next t) : t.RecordFits := by
  cases hop : s.nextOp with
  | none =>
    rw [hostStep, hop] at hs
    cases hs
    exact h
  | some op =>
    rcases hostStep_cases s t op hop hs with ⟨-, rfl⟩ | ⟨i, hi⟩ | ⟨o, rfl⟩
    · rcases waitflagStep_cases s with hw | hw | hw <;> rw [hw]
      · exact raise_recordFits rfl
      · exact h
      · exact h
    · exact exec_recordFits h hi
    · exact raise_recordFits rfl

theorem dmaStep_recordFits (h : s.RecordFits) : (dmaStep s).RecordFits := by
  refine settle_recordFits (raisesFitting_dmaWord s) fun t ht => ?_
  rw [dmaWord_frame ht]
  exact h

theorem indStep_recordFits (h : s.RecordFits) : (indStep s).RecordFits := by
  cases hi : s.indState with
  | checking =>
    rw [indStep_of_checking hi]
    unfold indCheck
    split_ifs
    · exact h
    · exact h
    · exact raise_recordFits rfl
  | waiting | verified | mismatchBlink =>
    rw [indStep, hi]
    exact h

/-- HANDLER, SYNC and TICK never touch the record. -/
theorem agent_of_fault_ne (hs : agentStep a s = .next t) (hne : t.fault ≠ s.fault) :
    a = .host ∨ a = .dma ∨ a = .ind := by
  cases a with
  | host | dma | ind => simp
  | handler | sync =>
    cases hs
    exact absurd rfl hne
  | tick =>
    cases hs
    rw [tickStep_frame] at hne
    exact absurd rfl hne

/-- EVERY agent's step keeps the record or raises one that fits. -/
theorem agentStep_recordFits (h : s.RecordFits) (hs : agentStep a s = .next t) : t.RecordFits := by
  by_cases hsame : t.fault = s.fault
  · rwa [State.RecordFits, hsame]
  · rcases agent_of_fault_ne hs hsame with rfl | rfl | rfl
    · exact hostStep_recordFits h hs
    · cases hs
      exact dmaStep_recordFits h
    · cases hs
      exact indStep_recordFits h

end Sys2Proof.Machine
end

section
/-! SUPPORT. The ends of a run (spec/60_exceptions.md R219): who has a step in a settled state. -/

namespace Sys2Proof.Machine

variable {s : State} {i : IndState}

/-- R219's conditions, one by one. -/
theorem settledIn_eq_true_iff : s.settledIn i = true ↔ s.fault = none ∧ s.indState = i
    ∧ s.hpc = s.hostProg.length ∧ s.dmaState = .done ∧ s.evtRaw = false ∧ s.sync1 = true
    ∧ s.sync2 = true ∧ s.flagSrc = true := by
  simp [State.settledIn, State.hostDone, and_assoc]

/-- With a settled verdict TICK alone can have a step: HOST and DMA are done, no event is up and the stages
have caught up. -/
theorem enabled_of_settledIn (h : s.settledIn i = true) (hi : i = .verified ∨ i = .mismatchBlink)
    (a : Agent) : s.enabled a = true ↔ a = .tick ∧ i = .mismatchBlink := by
  obtain ⟨hf, rfl, hhost, hd, hev, h1, h2, hsrc⟩ := settledIn_eq_true_iff.mp h
  cases a with
  | host => simp [State.enabled, hostReady_of_finished hhost.ge]
  | dma => simp [State.enabled, hd]
  | handler => simp [enabled_handler hf, hev]
  | sync => simp [enabled_sync hf, h1, h2, hsrc]
  | ind => simp [enabled_ind_of_verdict hi]
  | tick => simp [enabled_tick hf]

theorem enabledAgents_of_sole_enabled {a : Agent} (h : ∀ b, s.enabled b = true ↔ b = a) :
    s.enabledAgents = [a] := by
  have henabled : s.enabled = (· == a) :=
    funext fun b => Bool.eq_iff_iff.mpr ((h b).trans beq_iff_eq.symm)
  rw [State.enabledAgents, henabled]
  cases a <;> rfl

end Sys2Proof.Machine
end

section
/-! PROOFS. The statements about faults and the ends of a run. -/

namespace Sys2Proof.Machine

/-- Settles O10: the chosen agent raised, and every raise of its step fits. -/
theorem faultRecordContents : Obligations.FaultRecordContents := by
  unfold Obligations.FaultRecordContents
  intro s t r hs hr
  obtain ⟨hf, ⟨-, rfl⟩ | ⟨a, ha, -, hstep⟩⟩ := step_cases s t hs
  · cases hf.symm.trans hr
  have hne : t.fault ≠ s.nextTurn.fault := by simp [hf, hr]
  have hclean : s.nextTurn.RecordFits := by simp [State.RecordFits, hf]
  have hagent := agent_of_fault_ne hstep hne
  rcases agentStep_raise_or_sameLaunch hstep with ⟨c, rfl⟩ | hsame
  · obtain rfl := Option.some.inj hr
    exact ⟨ha, hagent, rfl, agentStep_recordFits hclean hstep _ rfl⟩
  · exact absurd hsame.fault hne

/-- Settles O12: a settled verdict leaves TICK alone, and only in MISMATCH_BLINK; a tick keeps R219's
conditions; a stop that is no end and no fault is a hang by R219's own words. -/
theorem endsOfARun : Obligations.EndsOfARun := by
  unfold Obligations.EndsOfARun
  refine ⟨fun s hf hi hhost hd hev h1 h2 hsrc => ?_, fun s hf hi hhost hd hev h1 h2 hsrc => ?_,
    fun s hnil => ?_⟩
  · have hend : s.settledIn .verified = true :=
      settledIn_eq_true_iff.mpr ⟨hf, hi, hhost, hd, hev, h1, h2, hsrc⟩
    refine ⟨hend, (enabledAgents_eq_nil s).mpr fun a => ?_⟩
    simp [Bool.eq_false_iff, enabled_of_settledIn hend]
  · have hend : s.settledIn .mismatchBlink = true :=
      settledIn_eq_true_iff.mpr ⟨hf, hi, hhost, hd, hev, h1, h2, hsrc⟩
    have hsole : ∀ b, s.enabled b = true ↔ b = .tick := by simp [enabled_of_settledIn hend]
    refine ⟨enabledAgents_of_sole_enabled hsole, tickStep s.nextTurn, step_of_sole_enabled hsole, ?_⟩
    rw [tickStep_frame]
    exact hend
  · by_cases hf : s.fault = none
    · cases hend : s.finalVerified with
      | true => exact .inl rfl
      | false => exact .inr (.inr (by simp [State.hung, hf, hnil, hend]))
    · exact .inr (.inl hf)

/-- Settles O49: the event is up only before the flag, and the ticker is armed only after it is visible. -/
theorem eventAndTickNeverBothEnabled : Obligations.EventAndTickNeverBothEnabled := by
  unfold Obligations.EventAndTickNeverBothEnabled
  rintro s ⟨-, -, hflag, -, -, hind⟩ ⟨hhandler, htick⟩
  have hf := enabled_fault s _ hhandler
  have hblink := (enabled_tick hf).mp htick
  obtain ⟨hraw, -⟩ := (enabled_handler hf).mp hhandler
  have hdown : s.flagSrc = false := by
    obtain ⟨-, -, -, hevent, -⟩ := hflag
    exact (hevent hraw).2
  obtain ⟨-, h2⟩ := stages_down_of_flag_down hflag hdown
  cases hblink.symm.trans (waiting_of_not_visible hind h2)

end Sys2Proof.Machine
end

section
/-! SUPPORT. Configuration writes that complete (spec/30_encoding.md R84, R86; 70_reset_and_hazards.md R234), and
the block at reset (70_reset_and_hazards.md R230, R231). -/

namespace Sys2Proof.Machine

open Expected

variable {i j : Instr} {s : State}

theorem dataWord_eq_operand (h : i.dataWord ≠ none) : i.dataWord = some i.operand := by
  cases i with
  | wrCrcCfg | wrCrcSeed | wrCrcCheck | wrCrcLength | wrCrcCtrl | wrCrcIr | wrDmaSar | wrDmaDar | wrDmaCtl
    | wrDmaBlock | wrDmaEvten | wrDmaStart | wrDmaEvtclr | wrSyncSet | wrIndThr => rfl
  | _ => exact absurd rfl h

/-- Every well-formed configuration write of an IDLE machine completes, IND_THR's but for 0 (R76, R182). -/
theorem exec_configWrite (hd : s.dmaState = .idle) (hc : i.reg.isConfig = true) (hw : ¬isRead i)
    (hwf : i.wf = true) (hthr : i ≠ .wrIndThr 0) : exec i s = .next (done (s.store i)) := by
  have hdata : i.dataWord = some i.operand := dataWord_eq_operand hw
  by_cases hreg : i.reg = .indThr
  · cases i with
    | wrIndThr d =>
      have hne : d ≠ 0 := fun e => hthr (congrArg Instr.wrIndThr e)
      rw [exec_wrIndThr_of_idle hd, if_neg hne]
      rfl
    | rdIndThr => exact absurd rfl hw
    | _ => cases hreg
  · exact exec_eq_store hdata hc hreg hd (beq_iff_eq.mp hwf)

/-- HOST's index is no part of what a write stores. -/
theorem store_done (s : State) (i : Instr) : (done s).store i = done (s.store i) := by
  cases i <;> rfl

/-- Writes of different registers store into different fields (R234). -/
theorem store_comm (h : i.reg ≠ j.reg) : (s.store i).store j = (s.store j).store i := by
  cases i with
  | wrCrcCfg | wrCrcSeed | wrCrcCheck | wrCrcLength | wrCrcCtrl | wrDmaSar | wrDmaDar | wrDmaCtl
    | wrDmaBlock | wrDmaEvten | wrIndThr =>
    cases j with
    | wrCrcCfg | wrCrcSeed | wrCrcCheck | wrCrcLength | wrCrcCtrl | wrDmaSar | wrDmaDar | wrDmaCtl
      | wrDmaBlock | wrDmaEvten | wrIndThr => revert h; simp [State.store, Instr.reg]
    | _ => rfl
  | _ => rfl

/-- In IDLE, HOST has a step while its program lasts: WAITFLAG does not hold there (42_sync.md R158). -/
theorem hostReady_of_idle (hd : s.dmaState = .idle) : s.hostReady = true ↔ s.hpc < s.hostProg.length := by
  cases hop : s.nextOp with
  | none =>
    have hfinished : s.hostProg.length ≤ s.hpc := List.getElem?_eq_none_iff.mp hop
    simp [hostReady_of_finished hfinished, hfinished]
  | some op =>
    have hlt : s.hpc < s.hostProg.length := (List.getElem?_eq_some_iff.mp hop).1
    refine iff_of_true ?_ hlt
    rw [State.hostReady, hop]
    cases op with
    | waitflag => simp [hd]
    | wr | rd => rfl

/-- At rest HOST alone can have a step. -/
theorem enabled_of_atRest (h : s.AtRest) (hf : s.fault = none) (a : Agent) :
    s.enabled a = true ↔ a = .host ∧ s.hpc < s.hostProg.length := by
  cases a with
  | host => simp [State.enabled, hf, hostReady_of_idle h.dmaState]
  | dma => simp [State.enabled, h.dmaState]
  | handler => simp [enabled_handler hf, h.evtRaw]
  | sync => simp [enabled_sync hf, h.flagSrc, h.sync1, h.sync2]
  | ind => simp [enabled_ind hf, h.indState, h.sync2]
  | tick => simp [enabled_tick hf, h.indState]

/-- Reset leaves the block at rest, whatever is launched on it. -/
theorem reset_atRest (p : Params) (m : Memory) (prog : List HostOp) (sched : List Agent) (turn : Nat) :
    { State.reset with params := p, mem := m, hostProg := prog, sched := sched, turn := turn }.AtRest where
  dmaState := rfl
  evtRaw := rfl
  flagSrc := rfl
  sync1 := rfl
  sync2 := rfl
  handlerCount := rfl
  rem := rfl
  curSrc := rfl
  crc := ⟨rfl, rfl, rfl, rfl⟩
  indThr := (by decide : Config.thrReset ≠ 0)
  indState := rfl
  out := rfl
  tickCnt := rfl

end Sys2Proof.Machine
end

section
/-! PROOFS. The statements about reset and the order of configuration writes. -/

namespace Sys2Proof.Machine

open Expected

/-- Settles O34: both writes complete, and what they store is the same in either order. -/
theorem configurationWritesCommute : Obligations.ConfigurationWritesCommute := by
  unfold Obligations.ConfigurationWritesCommute
  intro i j s hd hne hci hcj hwi hwj hwfi hwfj hthri hthrj
  have completes_i : ∀ t : State, t.dmaState = .idle → exec i t = .next (done (t.store i)) :=
    fun t ht => exec_configWrite ht hci hwi hwfi hthri
  have completes_j : ∀ t : State, t.dmaState = .idle → exec j t = .next (done (t.store j)) :=
    fun t ht => exec_configWrite ht hcj hwj hwfj hthrj
  have hidle : ∀ k, (done (s.store k)).dmaState = .idle := fun k => (store_dmaState s k).trans hd
  refine ⟨done (s.store i), done (s.store j), done (done ((s.store i).store j)), completes_i s hd, ?_,
    completes_j s hd, ?_, ?_, ?_⟩
  · rw [completes_j _ (hidle i), store_done]
  · rw [completes_i _ (hidle j), store_done, store_comm hne]
  · simp [done]
  · simp [done]

/-- Settles O6: each field by its definition, and each read by its register's rule in the reset state. -/
theorem resetState : Obligations.ResetState := by
  unfold Obligations.ResetState
  obtain ⟨rdCtrl, rdCnt, rdEvten, rdDmaSts, rdRem, rdTcnt, rdThr, rdIndSts⟩ :=
    alwaysReadableRegisters State.reset
  obtain ⟨rdCfg, -, rdSeed, -, rdCheck, -, rdLength, -⟩ := rdCrcConfiguration State.reset
  obtain ⟨rdSar, -, rdDar, -, rdCtl, -, rdBlock, -⟩ := rdDmaDescriptor State.reset
  exact ⟨by decide, by decide, ⟨rdCtrl, rdCnt, rdEvten, rdDmaSts, rdRem, rdIndSts, rdTcnt, rdThr⟩,
    rdCfg rfl, rdSeed rfl, rdCheck rfl, rdLength rfl, rdSar rfl, rdDar rfl, rdCtl rfl, rdBlock rfl,
    (rdCrcRes _).1 (.inl rfl), (rdCrcSts _).1 (.inl rfl), (rdSyncSts _).1 rfl⟩

/-- Settles O7: the block is at rest, so HOST alone can have a step, and has one if its program has an
element; with none the machine is one of R213's hangs (O11). -/
theorem resetEntryPoint : Obligations.ResetEntryPoint := by
  unfold Obligations.ResetEntryPoint
  intro p m prog sched turn s
  have henabled : ∀ a, s.enabled a = true ↔ a = .host ∧ 0 < prog.length :=
    enabled_of_atRest (reset_atRest p m prog sched turn) rfl
  refine ⟨rfl, fun hne a => ?_, fun hnil => ⟨fun a => ?_, ?_⟩⟩
  · simp [henabled, List.length_pos_iff.mpr hne]
  · simp [Bool.eq_false_iff, henabled, hnil]
  · have hfinished : prog.length ≤ s.hpc := by simp [hnil]
    exact (acceptedHangsStay s rfl nofun (.inl rfl) rfl rfl rfl rfl (.inl hfinished)).1

/-- Settles O54: the reset state is at rest, its parameters are in canonical form, and nothing is logged. -/
theorem invariantAtReset : Obligations.InvariantAtReset := by
  unfold Obligations.InvariantAtReset
  exact inv_of_atRest ⟨by decide, Memory.wf_nil⟩ ⟨Nat.le_refl 0, nofun⟩
    (reset_atRest Config.defaultParams [] [] [] 0)

end Sys2Proof.Machine
end
